-- ==== Sys2Proof/Word.lean ====
section
/-! DEFINITION. The bit vector types of the block's registers, by the widths of 10_state.md rule R14.
All values are unsigned (00_scope.md rule R9). -/
namespace Sys2Proof

/-- An operation code, `fsm[3:0]` (rule R46). -/
abbrev Code := BitVec 4

/-- A row number held in the register `row` (rule R16). -/
abbrev RowNum := BitVec 3

/-- One value of the column-sense lines, bit c is column c (rule R12); lines at or above `NCOLS` read 0. -/
abbrev Cols := BitVec 4

/-- A ROM entry or a RawScanCode (rules R33, R34, R49). -/
abbrev Byte := BitVec 8

/-- A KeyIndex (rule R50). -/
abbrev KeyIdx := BitVec 5

/-- A frame, `FRAME_W` = 16 bits (rules R6, R51). -/
abbrev FrameWord := BitVec 16

end Sys2Proof
end

