-- ==== Sys2Proof/Syntax.lean ====
section
/-! DEFINITION. The twelve operations of 30_encoding.md rule R46: the rows of spec/opcode_table.json.
An operation has no operand fields (rule R46), so every constructor is plain. -/
namespace Sys2Proof

/-- The operations, in the order of their codes. Each is one cycle of work: the state the sequencer is in during a
cycle selects the rule that computes the next state (00_scope.md rule R5). -/
inductive Instr
  /-- IDLE, rule R57 -/
  | idle
  /-- DEBOUNCE, rule R58 -/
  | debounce
  /-- SCAN_DRIVE, rule R59 -/
  | scanDrive
  /-- SCAN_SAMPLE, rule R61 -/
  | scanSample
  /-- SCAN_END, rule R62 -/
  | scanEnd
  /-- RESOLVE, rule R68 -/
  | resolve
  /-- ENCODE, rule R70 -/
  | encode
  /-- TX_LOAD, rule R73 -/
  | txLoad
  /-- TX_SEG, rule R74 -/
  | txSeg
  /-- TX_END, rule R75 -/
  | txEnd
  /-- DECIDE, rule R79 -/
  | decideTx
  /-- INTERFRAME, rule R80 -/
  | interframe
deriving DecidableEq, Repr

end Sys2Proof
end

