-- ==== Sys2Proof/Decode.lean ====
section
/-! DEFINITION. The decoder of 30_encoding.md rule R48, total on 4-bit codes and rejecting by name, and after it the
encoder, written from the same table (rule R46). -/
namespace Sys2Proof

/-- Why a word is no operation. -/
inductive DecodeError
  /-- Codes 12 to 15 (rule R47): raised by `decode`. Safe: the machine stops with `IllegalState`. -/
  | reserved (c : Code)
  /-- A number that does not fit the 4-bit field (rule R46 gives an operation no other bits): raised by
  `decodeNat`. Safe: such a word is refused (log entry 9). -/
  | tooWide (w : Nat)
deriving DecidableEq, Repr

/-- Rule R48, by the table of rule R46. -/
def decode (c : Code) : Except DecodeError Instr :=
  match c.toNat with
  | 0 => .ok .idle
  | 1 => .ok .debounce
  | 2 => .ok .scanDrive
  | 3 => .ok .scanSample
  | 4 => .ok .scanEnd
  | 5 => .ok .resolve
  | 6 => .ok .encode
  | 7 => .ok .txLoad
  | 8 => .ok .txSeg
  | 9 => .ok .txEnd
  | 10 => .ok .decideTx
  | 11 => .ok .interframe
  | _ => .error (.reserved c)

/-- The decoder on any number, as spec/opcode_table.json writes its words. -/
def decodeNat (w : Nat) : Except DecodeError Instr :=
  if w < 16 then decode (BitVec.ofNat 4 w) else .error (.tooWide w)

/-- The code of an operation (rule R46). -/
def encode : Instr → Code
  | .idle => 0b0000#4
  | .debounce => 0b0001#4
  | .scanDrive => 0b0010#4
  | .scanSample => 0b0011#4
  | .scanEnd => 0b0100#4
  | .resolve => 0b0101#4
  | .encode => 0b0110#4
  | .txLoad => 0b0111#4
  | .txSeg => 0b1000#4
  | .txEnd => 0b1001#4
  | .decideTx => 0b1010#4
  | .interframe => 0b1011#4

/-- The word of an opcode-table row whose low `nbits` bits are those of `w`: the hardware holds it in `fsm[3:0]`, so
any bit set above bit 3 makes it no operation. -/
def decodeTableWord (nbits w : Nat) : Option Instr :=
  match decodeNat (w % 2 ^ nbits) with
  | .ok i => some i
  | .error _ => none

end Sys2Proof
end

