-- ==== Sys2Proof/Config.lean ====
section
/-! DEFINITION. The configuration record of 00_scope.md rule R6, the fixed parameters, the values of one cycle's
input ports (10_state.md rules R12, R13) and the free draw of those inputs.
A state carries its configuration (`State.cfg`), so a claim about every state is a claim about every configuration. -/
namespace Sys2Proof

/-- `ADDR_MODE` (rule R6): four addresses from `addr_sel`, or one fixed address. -/
inductive AddrMode
  | selector
  | fixed
deriving DecidableEq, Repr, Inhabited

/-- The implementation parameters of rule R6 that are fixed at build time.
Durations of waits and inactive segments are in `clk` cycles, active segments in carrier periods. -/
structure Config where
  /-- `NCOLS`, number of column-sense lines -/
  ncols : Nat
  /-- `KEY_TABLE[0..23]`, the contents of KEY_ROM (rule R33) -/
  keyTable : Vector Byte 24
  /-- `FUNC_TABLE[0..23]`, the contents of FUNC_ROM (rule R34) -/
  funcTable : Vector Byte 24
  /-- `START_BITS` -/
  startBits : FrameWord
  /-- `ADDR_MAP[0..3]` -/
  addrMap : Vector FrameWord 4
  /-- `TOGGLE_OFFSET` -/
  toggleOffset : FrameWord
  /-- `FRAME_SHIFT` -/
  frameShift : Nat
  /-- `F_CLK` in hertz; no rule depends on it (rule R111) -/
  fClk : Nat
  /-- `CAR_PERIOD` -/
  carPeriod : Nat
  /-- `CAR_HIGH` -/
  carHigh : Nat
  /-- `T1_OFF` -/
  t1Off : Nat
  /-- `T1_ON`, in carrier periods -/
  t1On : Nat
  /-- `T0_ON`, in carrier periods -/
  t0On : Nat
  /-- `T0_OFF` -/
  t0Off : Nat
  /-- `DEBOUNCE` -/
  debounce : Nat
  /-- `INTERFRAME` -/
  interframe : Nat
  /-- `ROW_SETTLE` -/
  rowSettle : Nat
  /-- `TMR_W`, width of the timer counter -/
  tmrW : Nat
  /-- `ADDR_MODE` -/
  addrMode : AddrMode
deriving DecidableEq, Repr

/-- `NROWS` (rule R6). -/
abbrev nRows : Nat := 6

/-- `NKEYS` (rule R6). -/
abbrev nKeys : Nat := 24

/-- `NBITS`, bits sent per frame (rule R6). -/
abbrev nBits : Nat := 14

/-- `FRAME_W` (rule R6). -/
abbrev frameW : Nat := 16

/-- `COL_SHIFT` (rule R6). -/
abbrev colShift : Nat := 4

/-- `KEY_SENTINEL` (rules R6, R50). -/
abbrev keySentinel : KeyIdx := 31#5

/-- What the input ports present in one cycle (rule R12). -/
structure Input where
  /-- `rst`, active high -/
  rst : Bool
  /-- `col_sense`; the block has only the low `NCOLS` lines and masks the others off when it samples -/
  col : Cols
  /-- `addr_sel` -/
  sel : BitVec 2
deriving DecidableEq, Repr, Inhabited

/-- The free draw of rule R13: what the environment presents in cycle n when no script says so. It has no value
that can be known (log entry 2). -/
opaque Config.freeInput : Nat → Input

/-- The instance that `State.reset` carries: the nominal values of rule R6, and, for the parameters that rule R6
leaves OPEN with no nominal value, the illustrative constants of 95_test_vectors.md section 1.
DESIGN CHOICE (log entry 1): no statement rests on these values, but for the one that they are admitted. -/
def Config.nominal : Config where
  ncols := 4
  keyTable := #v[0x10, 0x20, 0x40, 0x80, 0x11, 0x21, 0x41, 0x81, 0x12, 0x22, 0x42, 0x82,
                 0x13, 0x23, 0x43, 0x83, 0x14, 0x24, 0x44, 0x84, 0x15, 0x25, 0x45, 0x85]
  funcTable := #v[0, 1, 2, 3, 4, 5, 6, 7, 8, 9, 10, 11, 12, 13, 14, 15, 16, 17, 18, 19, 20, 21, 22, 23]
  startBits := 0x3000
  addrMap := #v[0x0000, 0x0040, 0x0080, 0x00C0]
  toggleOffset := 0x0800
  frameShift := 2
  fClk := 4000000
  carPeriod := 100
  carHigh := 26
  t1Off := 3120
  t1On := 32
  t0On := 35
  t0Off := 3120
  debounce := 160000
  interframe := 356000
  rowSettle := 8
  tmrW := 19
  addrMode := .selector

end Sys2Proof
end

