-- ==== Sys2Proof/Machine/State.lean ====
section
/-! DEFINITION. The state of the IRTX core: every register of 10_state.md rule R14, the configuration, and the two
fields that are the model's own (`stim`, `cycle`: the inputs of the coming cycles). Also the reasons a step stops and
RESET_STATE (70_reset_and_hazards.md rule R102). -/
namespace Sys2Proof.Machine

/-- `edge_pol` (30_encoding.md rule R54). -/
inductive EdgePol
  /-- code 0: a column going from 0 to 1, a key press -/
  | rise
  /-- code 1: a column going from 1 to 0, a key release -/
  | fall
deriving DecidableEq, Repr

/-- Rule R14's registers, in its order, with the configuration and the inputs to come. -/
structure State where
  /-- the configuration record, fixed at build time (rule R6); no step changes it -/
  cfg : Config
  /-- code of the current operation (R15) -/
  fsm : Code
  /-- row being scanned (R16) -/
  row : RowNum
  /-- the shared down-counter (R17) -/
  tmr : Nat
  /-- RawScanCode (R18) -/
  raw : Byte
  /-- KeyIndex (R19) -/
  keyIdx : KeyIdx
  /-- ErrorFlags.NoKey (R20) -/
  errNokey : Bool
  /-- ErrorFlags.NoMatch (R20) -/
  errNomatch : Bool
  /-- TransFlags.HeldDown (R21) -/
  heldDown : Bool
  /-- TransFlags.Toggle (R22) -/
  toggle : Bool
  /-- Frame (R23) -/
  frame : FrameWord
  /-- transmit shift register (R24) -/
  shreg : FrameWord
  /-- bits completed in the current frame (R24) -/
  bitcnt : BitVec 4
  /-- false: first segment of the current bit, true: second (R24) -/
  half : Bool
  /-- true: the current segment is active (R24) -/
  segOn : Bool
  /-- position within the carrier period (R25) -/
  carPhase : Nat
  /-- edge detection armed (R26) -/
  edgeEn : Bool
  /-- edge polarity (R26) -/
  edgePol : EdgePol
  /-- a sense-line edge has latched (R26) -/
  edgeLatch : Bool
  /-- column value the detector compares against (R26) -/
  colPrev : Cols
  /-- the model's own: inputs of the coming cycles, the head is this cycle's (R13, R55; log entry 2) -/
  stim : List Input
  /-- the model's own: index of this cycle, argument of the free draw when `stim` is empty (log entry 2) -/
  cycle : Nat
deriving DecidableEq, Repr

/-- The named stops of the spec. None is reachable from RESET_STATE in a well-formed configuration (rule R87). -/
inductive Fault
  /-- `fsm` holds a reserved code: raised by `step` (rules R30, R47). Safe: the model stops where a chip may do
  anything, and no reachable run meets it. -/
  | illegalState (code : Code)
  /-- A ROM index of 24 or more: raised by ENCODE (rules R35, R70). Safe: the model stops, and no reachable run
  meets it. -/
  | romIndex (i : Nat)
deriving DecidableEq, Repr

/-- The refusals. -/
inductive Refusal
  /-- An operation without a meaning; `exec` has no such arm. Safe. -/
  | notModelled (mnemonic : String)
  /-- A configuration that rule R7 does not admit: raised by `step`. Safe: nothing is claimed of it. -/
  | illFormedConfig
deriving DecidableEq, Repr

/-- RESET_STATE (rules R14, R102) under configuration `c`, in cycle `n`, with the inputs `inputs` to come. -/
def State.resetWith (c : Config) (inputs : List Input) (n : Nat) : State where
  cfg := c
  fsm := 0#4
  row := 0
  tmr := 0
  raw := 0
  keyIdx := keySentinel
  errNokey := false
  errNomatch := false
  heldDown := false
  toggle := false
  frame := 0
  shreg := 0
  bitcnt := 0
  half := false
  segOn := false
  carPhase := 0
  edgeEn := true
  edgePol := .rise
  edgeLatch := false
  colPrev := 0
  stim := inputs
  cycle := n

/-- The machine right after reset: RESET_STATE, cycle 0, no input scripted. -/
def State.reset : State := State.resetWith Config.nominal [] 0

end Sys2Proof.Machine
end

