-- ==== Sys2Proof/Machine/Ops.lean ====
section
/-! DEFINITION. The operations shared by the meanings: sampling the input ports, the control transfer, the timer, the
sense-line edge detector with its two armings, and the reset and end of a cycle.
The block has no trap: "No condition of the IRTX core transfers control anywhere other than the successor its
operation rule names" (60_exceptions.md rule R84), nothing is saved and there is no return (rules R93, R94). What
stands in place of taking an exception is the error exit of rule R87, given here once as `errorExit`. -/
namespace Sys2Proof.Machine

/-! ## Inputs (10_state.md rule R13) -/

/-- The `NCOLS` low lines. -/
def colMask (ncols : Nat) : Cols := BitVec.ofNat 4 (2 ^ ncols - 1)

/-- What the ports present in this cycle: the script's next line, or a free draw. -/
def State.input (s : State) : Input :=
  match s.stim with
  | [] => Config.freeInput s.cycle
  | i :: _ => i

/-- `in.col`, `NCOLS` bits. -/
def State.colIn (s : State) : Cols := s.input.col &&& colMask s.cfg.ncols

/-- `in.sel`. -/
def State.selIn (s : State) : BitVec 2 := s.input.sel

/-- The inputs move on to the next cycle. -/
def State.advance (s : State) : State := { s with stim := s.stim.tail, cycle := s.cycle + 1 }

/-! ## Control transfer and timer -/

/-- `fsm <- OP` (00_scope.md rule R10). -/
def State.goto (i : Instr) (s : State) : State := { s with fsm := encode i }

/-- `tmr <- v`. -/
def State.loadTmr (v : Nat) (s : State) : State := { s with tmr := v }

/-- The wait shared by DEBOUNCE, SCAN_DRIVE, TX_SEG and INTERFRAME (60_exceptions.md rule R91): while `s.tmr > 1` the
timer counts down, and in the expiry cycle the operation does `expired`. `n` is the state it writes into. -/
def wait (s n expired : State) : State := if 1 < s.tmr then n.loadTmr (s.tmr - 1) else expired

/-! ## The sense-line edge detector (60_exceptions.md rules R88 to R90) -/

/-- Some column rose since `prev`. -/
def rose (prev col : Cols) : Bool := decide (col &&& ~~~prev ≠ 0)

/-- Some column fell since `prev`. -/
def fell (prev col : Cols) : Bool := decide (prev &&& ~~~col ≠ 0)

/-- `hit` of rule R88, for the selected polarity. -/
def edgeHit (pol : EdgePol) (prev col : Cols) : Bool :=
  match pol with
  | .rise => rose prev col
  | .fall => fell prev col

/-- The detector is armed and sees its edge in this cycle. -/
def State.edgeFires (s : State) : Bool := s.edgeEn && edgeHit s.edgePol s.colPrev s.colIn

/-- `EdgeUpdate(s, in.col)` of rule R88: the state `n` of rule R30 that every operation then writes into. -/
def State.edgeUpdate (s : State) : State :=
  { s with
    colPrev := s.colIn
    edgeLatch := if s.edgeFires then true else s.edgeLatch
    edgeEn := if s.edgeFires then false else s.edgeEn }

/-- `ArmPress(c)` of rule R89. -/
def State.armPress (c : Cols) (s : State) : State :=
  { s with edgeEn := true, edgePol := .rise, edgeLatch := false, colPrev := c }

/-- `ArmRelease(m)` of rule R90. -/
def State.armRelease (m : Cols) (s : State) : State :=
  { s with edgeEn := true, edgePol := .fall, edgeLatch := false, colPrev := m }

/-- The error exit (rules R68, R87): press detection is armed against the columns `c`, and the block returns to
IDLE. -/
def State.errorExit (c : Cols) (s : State) : State := (s.armPress c).goto .idle

/-! ## The cycle (10_state.md rule R30) -/

/-- A cycle with `in.rst = 1` (70_reset_and_hazards.md rule R101): every register at its reset value. The
configuration and the inputs to come are no registers and stay. -/
def State.resetCycle (s : State) : State := State.resetWith s.cfg s.stim s.cycle

/-- The named stop for a code that decodes to no operation (rules R30, R47). -/
def illegalState (s : State) : Host.Outcome State Fault Refusal := .fault (.illegalState s.fsm)

/-- The inputs move on after a cycle that ends in a next state. -/
def endCycle (o : Host.Outcome State Fault Refusal) : Host.Outcome State Fault Refusal :=
  match o with
  | .next s => .next s.advance
  | .fault f => .fault f
  | .refused r => .refused r

end Sys2Proof.Machine
end

