-- ==== Sys2Proof/Machine/Flags.lean ====
section
/-! DEFINITION. The flags: ErrorFlags (10_state.md rule R20), TransFlags (rules R21, R22) and the error status code
(30_encoding.md rule R52). -/
namespace Sys2Proof.Machine

/-- `ERR = {err_nomatch, err_nokey}` (rule R52). -/
def State.err (s : State) : BitVec 2 := BitVec.ofBool s.errNomatch ++ BitVec.ofBool s.errNokey

/-- Both error flags cleared, at the start of a press cycle (rules R20, R57). -/
def State.clearErrors (s : State) : State := { s with errNokey := false, errNomatch := false }

/-- `raise NoKey` when `c` holds (rules R62, R85); the flag is never cleared here. -/
def State.raiseNoKeyIf (c : Bool) (s : State) : State := { s with errNokey := if c then true else s.errNokey }

/-- `raise NoMatch` (rules R68, R86): the flag, and the sentinel in `key_idx`. -/
def State.raiseNoMatch (s : State) : State := { s with errNomatch := true, keyIdx := keySentinel }

/-- `held_down <- v` (rule R21). -/
def State.setHeld (v : Bool) (s : State) : State := { s with heldDown := v }

/-- `toggle <- ~toggle` (rule R22). -/
def State.flipToggle (s : State) : State := { s with toggle := !s.toggle }

end Sys2Proof.Machine
end

