-- ==== Sys2Proof/Machine/Operands.lean ====
section
/-! DEFINITION. What the operations compute from their operands: the ROM reads (20_memory.md rule R35), the
RawScanCode assembly (30_encoding.md rule R49), the matcher and the frame packer (41_resolve_encode.md rules R65 to
R67) and the segment table (42_transmit.md rule R72). -/
namespace Sys2Proof.Machine

/-! ## ROMs -/

/-- `MemRead(ROM, i, 1)` of rule R35: entry i for i in 0..23, nothing for an absent index. -/
def memRead (rom : Vector Byte 24) (i : Nat) : Option Byte := rom[i]?

/-! ## RawScanCode -/

/-- `ROW_CODE(r) = r`, in 8 bits (rules R6, R61). -/
def rowCode (r : RowNum) : Byte := r.setWidth 8

/-- `zext_8(c) << COL_SHIFT` (rule R61). -/
def colField (c : Cols) : Byte := c.setWidth 8 <<< colShift

/-- RawScanCode after row `r` is sampled as `c` (rule R61). -/
def accumulate (raw : Byte) (r : RowNum) (c : Cols) : Byte :=
  if c ≠ 0 then raw ||| rowCode r ||| colField c else raw

/-- The ROWS field `raw[3:0]` (rule R49). -/
def rawRows (raw : Byte) : BitVec 4 := raw.extractLsb' 0 4

/-- The COLS field of rule R49, `raw[COL_SHIFT + NCOLS - 1 : COL_SHIFT]`: the release baseline of SCAN_END. -/
def rawCols (ncols : Nat) (raw : Byte) : Cols := raw.extractLsb' 4 4 &&& colMask ncols

/-! ## Matcher -/

/-- The largest index below `n` whose entry is `v`. -/
def lastMatchBelow (rom : Vector Byte 24) (v : Byte) : Nat → Option Nat
  | 0 => none
  | n + 1 => if memRead rom n = some v then some n else lastMatchBelow rom v n

/-- `LastMatch(v)` of rule R65. -/
def lastMatch (c : Config) (v : Byte) : Option Nat := lastMatchBelow c.keyTable v nKeys

/-! ## Frame packer -/

/-- `ADDR(sel)` of rule R67. -/
def addrOf (c : Config) (sel : BitVec 2) : FrameWord :=
  match c.addrMode with
  | .selector => c.addrMap[sel.toNat]
  | .fixed => c.addrMap[0]

/-- `P(k, sel, t)` of rule R66, from the FUNC_ROM entry of k. -/
def packed (c : Config) (payload : Byte) (sel : BitVec 2) (t : Bool) : FrameWord :=
  c.startBits + addrOf c sel + payload.setWidth 16 + (if t then c.toggleOffset else 0)

/-- `FrameOf(k, sel, t)` of rule R66, from the FUNC_ROM entry of k. -/
def frameOf (c : Config) (payload : Byte) (sel : BitVec 2) (t : Bool) : FrameWord :=
  packed c payload sel t <<< c.frameShift

/-- The transmitted window `frame[15:2]` (rule R51). -/
def frameWindow (f : FrameWord) : BitVec 14 := f.extractLsb' 2 14

/-! ## Segments -/

/-- A segment: whether it is active, and its length in `clk` cycles. -/
structure Segment where
  on : Bool
  len : Nat
deriving DecidableEq, Repr

/-- `SegA(b)` of rule R72. -/
def segA (c : Config) (b : Bool) : Segment :=
  if b then ⟨false, c.t1Off⟩ else ⟨true, c.t0On * c.carPeriod⟩

/-- `SegB(b)` of rule R72. -/
def segB (c : Config) (b : Bool) : Segment :=
  if b then ⟨true, c.t1On * c.carPeriod⟩ else ⟨false, c.t0Off⟩

/-- `(seg_on, tmr) <- seg; car_phase <- 0`: a segment starts (rules R73, R74). -/
def State.loadSegment (g : Segment) (s : State) : State := { s with segOn := g.on, tmr := g.len, carPhase := 0 }

end Sys2Proof.Machine
end

