-- ==== Sys2Proof/Machine/Resolve.lean ====
section
/-! DEFINITION. The resolve and encode family, 41_resolve_encode.md: RESOLVE, ENCODE. -/
namespace Sys2Proof.Machine

/-- RESOLVE, rule R68: RawScanCode is matched against KEY_ROM, also after NoKey (90_conflicts.md C1); NoKey or NoMatch
takes the error exit. -/
def execResolve (s : State) : Host.Outcome State Fault Refusal :=
  let n := s.edgeUpdate
  .next (match lastMatch s.cfg s.raw with
    | none => n.raiseNoMatch.errorExit s.colIn
    | some m =>
      let k := { n with keyIdx := BitVec.ofNat 5 m }
      if s.errNokey then k.errorExit s.colIn else k.goto .encode)

/-- ENCODE, rule R70: the frame is packed. An absent FUNC_ROM index is the named fault of rule R35. -/
def execEncode (s : State) : Host.Outcome State Fault Refusal :=
  match memRead s.cfg.funcTable s.keyIdx.toNat with
  | none => .fault (.romIndex s.keyIdx.toNat)
  | some payload =>
    .next (({ s.edgeUpdate with frame := frameOf s.cfg payload s.selIn s.toggle }.setHeld true).goto .txLoad)

end Sys2Proof.Machine
end

