-- ==== Sys2Proof/Machine/Retransmit.lean ====
section
/-! DEFINITION. The retransmit family, 43_retransmit.md: DECIDE, INTERFRAME. -/
namespace Sys2Proof.Machine

/-- `tmr <- INTERFRAME; fsm <- INTERFRAME`: the RETRANSMIT outcome (rule R79). -/
def State.retransmit (s : State) : State := (s.loadTmr s.cfg.interframe).goto .interframe

/-- The ENDTRANSMIT outcome (rule R79): HeldDown cleared, the timer resources stopped, Toggle flipped, and back to
IDLE armed for a press against the columns `c`. -/
def State.endTransmit (c : Cols) (s : State) : State :=
  (({ s.setHeld false with carPhase := 0 }.loadTmr 0).flipToggle.armPress c).goto .idle

/-- DECIDE, rule R79: retransmit or finalise. -/
def execDecide (s : State) : Host.Outcome State Fault Refusal :=
  let n := s.edgeUpdate
  .next (if !s.edgeLatch then n.retransmit
    else if s.colIn ≠ 0 then (n.armRelease s.colIn).retransmit
    else n.endTransmit s.colIn)

/-- INTERFRAME, rule R80: the fixed delay before the same frame is sent again. -/
def execInterframe (s : State) : Host.Outcome State Fault Refusal :=
  let n := s.edgeUpdate
  .next (wait s n ((n.loadTmr 0).goto .txLoad))

end Sys2Proof.Machine
end

