-- ==== Sys2Proof/Machine/Scan.lean ====
section
/-! DEFINITION. The scan family, 40_scan.md: IDLE, DEBOUNCE, SCAN_DRIVE, SCAN_SAMPLE, SCAN_END.
A meaning reads `s`, the start of the cycle, and writes into `s.edgeUpdate`, so that its own writes win over the edge
detector's (10_state.md rule R30; log entry 5). -/
namespace Sys2Proof.Machine

/-- IDLE, rule R57: wait for a latched key edge, then start a press cycle. -/
def execIdle (s : State) : Host.Outcome State Fault Refusal :=
  let n := s.edgeUpdate
  .next (if s.edgeLatch then
      ({ n.clearErrors with edgeLatch := false, raw := 0, keyIdx := keySentinel }.loadTmr s.cfg.debounce).goto .debounce
    else n)

/-- DEBOUNCE, rule R58: the fixed settling delay; the key is not looked at again. -/
def execDebounce (s : State) : Host.Outcome State Fault Refusal :=
  let n := s.edgeUpdate
  .next (wait s n (({ n with row := 0 }.loadTmr s.cfg.rowSettle).goto .scanDrive))

/-- SCAN_DRIVE, rules R59 and R60: one row is driven while the sense lines settle. -/
def execScanDrive (s : State) : Host.Outcome State Fault Refusal :=
  let n := s.edgeUpdate
  .next (wait s n ((n.loadTmr 0).goto .scanSample))

/-- SCAN_SAMPLE, rule R61: the columns of the driven row are sampled into RawScanCode. -/
def execScanSample (s : State) : Host.Outcome State Fault Refusal :=
  let n := { s.edgeUpdate with raw := accumulate s.raw s.row s.colIn }
  .next (if s.row.toNat = nRows - 1 then n.goto .scanEnd
    else ({ n with row := s.row + 1 }.loadTmr s.cfg.rowSettle).goto .scanDrive)

/-- SCAN_END, rule R62: NoKey is decided, and release detection is armed against the columns seen in the sweep. -/
def execScanEnd (s : State) : Host.Outcome State Fault Refusal :=
  let n := s.edgeUpdate.raiseNoKeyIf (decide (s.raw = 0))
  .next ({ n.armRelease (rawCols s.cfg.ncols s.raw) with row := 0 }.goto .resolve)

end Sys2Proof.Machine
end

