-- ==== Sys2Proof/Machine/Transmit.lean ====
section
/-! DEFINITION. The transmit family, 42_transmit.md: TX_LOAD, TX_SEG, TX_END. -/
namespace Sys2Proof.Machine

/-- TX_LOAD, rule R73: the frame is copied into the shift register and its first segment starts. -/
def execTxLoad (s : State) : Host.Outcome State Fault Refusal :=
  .next (({ s.edgeUpdate with shreg := s.frame, bitcnt := 0, half := false }.loadSegment
    (segA s.cfg (s.frame.getLsbD 15))).goto .txSeg)

/-- TX_SEG, rule R74: one cycle of the current segment, and in its last cycle the next segment or the end of the
frame. `car_phase <- 0` in the text after the increment wins over it (00_scope.md rule R10). -/
def execTxSeg (s : State) : Host.Outcome State Fault Refusal :=
  let n := { s.edgeUpdate with carPhase := (s.carPhase + 1) % s.cfg.carPeriod }
  let bitDone := { n with shreg := s.shreg <<< 1, bitcnt := s.bitcnt + 1 }
  .next (wait s n
    (if s.half then
      (if s.bitcnt.toNat + 1 = nBits then bitDone.goto .txEnd
        else { bitDone with half := false }.loadSegment (segA s.cfg (s.shreg.getLsbD 14)))
    else { n with half := true }.loadSegment (segB s.cfg (s.shreg.getLsbD 15))))

/-- TX_END, rule R75: the transmitter is stopped and cleared; `frame` stays. -/
def execTxEnd (s : State) : Host.Outcome State Fault Refusal :=
  .next (({ s.edgeUpdate with carPhase := 0, segOn := false, half := false, shreg := 0, bitcnt := 0 }.loadTmr 0).goto
    .decideTx)

end Sys2Proof.Machine
end

