-- ==== Sys2Proof/Machine/Dispatch.lean ====
section
/-! DEFINITION. One arm per operation (10_state.md rule R30, `OpRule[s.fsm]`). -/
namespace Sys2Proof.Machine

def exec (i : Instr) (s : State) : Host.Outcome State Fault Refusal :=
  match i with
  | .idle => Sys2Proof.Machine.execIdle s
  | .debounce => Sys2Proof.Machine.execDebounce s
  | .scanDrive => Sys2Proof.Machine.execScanDrive s
  | .scanSample => Sys2Proof.Machine.execScanSample s
  | .scanEnd => Sys2Proof.Machine.execScanEnd s
  | .resolve => Sys2Proof.Machine.execResolve s
  | .encode => Sys2Proof.Machine.execEncode s
  | .txLoad => Sys2Proof.Machine.execTxLoad s
  | .txSeg => Sys2Proof.Machine.execTxSeg s
  | .txEnd => Sys2Proof.Machine.execTxEnd s
  | .decideTx => Sys2Proof.Machine.execDecide s
  | .interframe => Sys2Proof.Machine.execInterframe s

end Sys2Proof.Machine
end

