-- ==== Sys2Proof/WellFormed.lean ====
section
/-! DEFINITION. Well-formedness of a configuration (00_scope.md rule R7), one check for each item of the rule's
list, and of an operation code (30_encoding.md rule R47). An operation itself has no operand fields (rule R46), so
there is nothing else an `Instr` could get wrong. -/
namespace Sys2Proof

/-- "`KEY_TABLE` entries are pairwise distinct". -/
def Config.keysDistinct (c : Config) : Bool := decide c.keyTable.toList.Nodup

/-- "Every `FUNC_TABLE` entry is < 64". -/
def Config.payloadsSixBit (c : Config) : Bool := c.funcTable.toList.all fun b => decide (b.toNat < 64)

/-- "`1 <= NCOLS <= 4`". -/
def Config.ncolsInRange (c : Config) : Bool := decide (1 ≤ c.ncols ∧ c.ncols ≤ 4)

/-- "`CAR_PERIOD >= 1` and `0 <= CAR_HIGH <= CAR_PERIOD`". -/
def Config.carrierInRange (c : Config) : Bool := decide (1 ≤ c.carPeriod ∧ c.carHigh ≤ c.carPeriod)

/-- The seven durations that rule R7 requires to be at least 1. -/
def Config.durationsPositive (c : Config) : Bool :=
  decide (1 ≤ c.t1Off ∧ 1 ≤ c.t1On ∧ 1 ≤ c.t0On ∧ 1 ≤ c.t0Off ∧ 1 ≤ c.debounce ∧ 1 ≤ c.interframe ∧
    1 ≤ c.rowSettle)

/-- "`2^TMR_W` is greater than every one of" the seven values that can be loaded into the timer. -/
def Config.timerWideEnough (c : Config) : Bool :=
  decide (c.t1Off < 2 ^ c.tmrW ∧ c.t1On * c.carPeriod < 2 ^ c.tmrW ∧ c.t0On * c.carPeriod < 2 ^ c.tmrW ∧
    c.t0Off < 2 ^ c.tmrW ∧ c.debounce < 2 ^ c.tmrW ∧ c.interframe < 2 ^ c.tmrW ∧ c.rowSettle < 2 ^ c.tmrW)

/-- "`FRAME_SHIFT <= FRAME_W - NBITS`". -/
def Config.shiftInRange (c : Config) : Bool := decide (c.frameShift ≤ frameW - nBits)

/-- "If `ADDR_MODE = FIXED` then `ADDR_MAP[0] = ADDR_MAP[1] = ADDR_MAP[2] = ADDR_MAP[3]`". -/
def Config.fixedAddressEqual (c : Config) : Bool :=
  match c.addrMode with
  | .selector => true
  | .fixed => decide (c.addrMap[0] = c.addrMap[1] ∧ c.addrMap[1] = c.addrMap[2] ∧ c.addrMap[2] = c.addrMap[3])

/-- The configurations that rule R7 admits. -/
def Config.wf (c : Config) : Bool :=
  c.keysDistinct && c.payloadsSixBit && c.ncolsInRange && c.carrierInRange && c.durationsPositive &&
    c.timerWideEnough && c.shiftInRange && c.fixedAddressEqual

/-- The codes that name an operation (rules R46, R47). -/
def codeWf (c : Code) : Bool := decide (c.toNat < 12)

end Sys2Proof
end

