-- ==== Sys2Proof/Machine/Step.lean ====
section
/-! DEFINITION. The cycle step of 10_state.md rule R30, and how the host places an operation. -/
namespace Sys2Proof.Machine

/-- One rising edge of `clk` (rule R30). An ill-formed configuration is refused before anything else (rule R7; log
entry 1); reset is tested before the code (95_test_vectors.md RT3). -/
def step (s : State) : Host.Outcome State Fault Refusal :=
  if s.cfg.wf then
    if s.input.rst then .next s.resetCycle.advance
    else
      match decode s.fsm with
      | .ok i => endCycle (exec i s)
      | .error _ => illegalState s
  else .refused .illFormedConfig

/-- The operation of code `w` placed in the sequencer register, and a line of the script that keeps `rst` at 0 in
this cycle (its `col` and `sel` are those the cycle had anyway), so that the next step runs it (log entry 8). -/
def State.withFetchWord (s : State) (nbits w : Nat) : State :=
  { s with
    fsm := BitVec.ofNat 4 (w % 2 ^ nbits)
    stim := { s.input with rst := false } :: s.stim.tail }

end Sys2Proof.Machine
end

