-- ==== Sys2Proof/Machine/Outputs.lean ====
section
/-! DEFINITION. The output ports, functions of the state alone (10_state.md rules R27, R28, R29). -/
namespace Sys2Proof.Machine

/-- `onehot_6(r)` (00_scope.md rule R9); the illegal row numbers 6 and 7 select no line (log entry 6). -/
def onehot6 (r : RowNum) : BitVec 6 := 1#6 <<< r.toNat

/-- `row_drive` (rule R27). -/
def State.rowDrive (s : State) : BitVec 6 :=
  if s.fsm = encode .scanDrive ∨ s.fsm = encode .scanSample then onehot6 s.row else 0b111111#6

/-- `ir_out` (rule R28). -/
def State.irOut (s : State) : Bool := decide (s.fsm = encode .txSeg) && s.segOn && decide (s.carPhase < s.cfg.carHigh)

/-- The power states (30_encoding.md rule R53). -/
inductive PwrState
  | active
  | light
  | deep
deriving DecidableEq, Repr

/-- The code of a power state (rule R53). -/
def pwrCode : PwrState → BitVec 2
  | .active => 0
  | .light => 1
  | .deep => 2

/-- `pwr_state` (rule R29). In a reserved code, which names no operation, the spec gives no value and the model gives
ACTIVE: DESIGN CHOICE (log entry 12). -/
def State.pwrState (s : State) : PwrState :=
  if s.fsm = encode .idle then .deep
  else if s.fsm = encode .debounce ∨ s.fsm = encode .txSeg ∨ s.fsm = encode .interframe then .light
  else .active

/-- The code of an edge polarity (30_encoding.md rule R54). -/
def edgePolCode : EdgePol → BitVec 1
  | .rise => 0
  | .fall => 1

/-- The outputs of one cycle, the observation of rule R31. -/
structure Outputs where
  rowDrive : BitVec 6
  irOut : Bool
  pwr : BitVec 2
deriving DecidableEq, Repr

/-- The outputs of the cycle that starts in `s` (rule R30). -/
def State.outputs (s : State) : Outputs := ⟨s.rowDrive, s.irOut, pwrCode s.pwrState⟩

end Sys2Proof.Machine
end

