-- ==== Sys2Proof/Machine/Trace.lean ====
section
/-! DEFINITION. Runs, and the notation of 30_encoding.md rules R55 and R56: the inputs and operations of the coming
cycles, the wired keypad, the pseudo-operations with their durations, and the waveform of one bit. No meaning calls
this file; claims about several cycles are stated with it. -/
namespace Sys2Proof.Machine

/-! ## Runs -/

/-- What the ports present k cycles from now, if the run gets there. -/
def State.inputAt (s : State) (k : Nat) : Input :=
  match s.stim.drop k with
  | [] => Config.freeInput (s.cycle + k)
  | i :: _ => i

/-- `in.col` k cycles from now. -/
def State.colAt (s : State) (k : Nat) : Cols := (s.inputAt k).col &&& colMask s.cfg.ncols

/-- `rst` is 0 in each of the next n cycles. -/
def State.noReset (s : State) (n : Nat) : Prop := ∀ k < n, (s.inputAt k).rst = false

/-- n steps lead from `s` to `t`. -/
def Reaches : Nat → State → State → Prop
  | 0, s, t => t = s
  | n + 1, s, t => ∃ u, step s = .next u ∧ Reaches n u t

/-- The operation trace of rule R55: the operations of the next n cycles, up to a stop. -/
def opTrace : Nat → State → List Instr
  | 0, _ => []
  | n + 1, s =>
    match decode s.fsm with
    | .error _ => []
    | .ok i =>
      match step s with
      | .next t => i :: opTrace n t
      | _ => [i]

/-- The `ir_out` values of the next n cycles, up to a stop. -/
def irTrace : Nat → State → List Bool
  | 0, _ => []
  | n + 1, s =>
    s.irOut :: match step s with
      | .next t => irTrace n t
      | _ => []

/-! ## The environment -/

/-- The columns of a wired keypad (rules R13, R55): closed key (r, c) puts `row_drive[r]` on column c. -/
def keyCols (drive : BitVec 6) : List (Nat × Nat) → Cols
  | [] => 0
  | (r, c) :: ks => (if drive.getLsbD r then 1#4 <<< c else 0) ||| keyCols drive ks

/-- `s` with the wired keypad presenting the closed keys in this cycle (rule R55's `key(r,c)`). -/
def State.withKeys (s : State) (keys : List (Nat × Nat)) (sel : BitVec 2) : State :=
  { s with stim := ⟨false, keyCols s.rowDrive keys, sel⟩ :: s.stim.tail }

/-- A run with the wired keypad: one list of closed keys for each cycle. -/
def keyedRun (sel : BitVec 2) : List (List (Nat × Nat)) → State → Host.Outcome State Fault Refusal
  | [], s => .next s
  | ks :: rest, s =>
    match step (s.withKeys ks sel) with
    | .next t => keyedRun sel rest t
    | .fault f => .fault f
    | .refused r => .refused r

/-! ## Durations and pseudo-operations (rules R56, R72, R77) -/

/-- Length in cycles of one transmitted bit (the last column of rule R72's table). -/
def bitCycles (c : Config) (b : Bool) : Nat := (segA c b).len + (segB c b).len

/-- The k-th bit sent, `f[15 - k]` (20_memory.md rule R38). -/
def sentBit (f : FrameWord) (k : Nat) : Bool := f.getLsbD (15 - k)

/-- Cycles of TX_SEG before the k-th bit sent starts. -/
def bitStart (c : Config) (f : FrameWord) : Nat → Nat
  | 0 => 0
  | k + 1 => bitStart c f k + bitCycles c (sentBit f k)

/-- The number of ones in `f[15:2]`, `n1` of rule R77. -/
def onesSent (f : FrameWord) : Nat := (List.range nBits).countP (sentBit f)

/-- `D(f)` of rule R77. -/
def frameCycles (c : Config) (f : FrameWord) : Nat :=
  onesSent f * (c.t1Off + c.t1On * c.carPeriod) + (nBits - onesSent f) * (c.t0On * c.carPeriod + c.t0Off)

/-- `DEBOUNCE_WAIT`. -/
def debounceOps (c : Config) : List Instr := List.replicate c.debounce .debounce

/-- `SCAN`. -/
def scanOps (c : Config) : List Instr :=
  (List.replicate nRows (List.replicate c.rowSettle .scanDrive ++ [.scanSample])).flatten ++ [.scanEnd]

/-- `BIT(b)`. -/
def bitOps (c : Config) (b : Bool) : List Instr := List.replicate (bitCycles c b) .txSeg

/-- `FRAME(f)`. -/
def frameOps (c : Config) (f : FrameWord) : List Instr :=
  .txLoad :: (List.range nBits).flatMap (fun k => bitOps c (sentBit f k)) ++ [.txEnd]

/-- `RETX`. -/
def retxOps (c : Config) : List Instr := .decideTx :: List.replicate c.interframe .interframe

/-- A trace as a run-length list of codes, the "encoding" of rule R55. -/
def runLengths : List Instr → List (Code × Nat)
  | [] => []
  | i :: is =>
    match runLengths is with
    | (c, n) :: rest => if c = encode i then (c, n + 1) :: rest else (encode i, 1) :: (c, n) :: rest
    | [] => [(encode i, 1)]

/-! ## Waveform -/

/-- `ir_out` in cycle j of a segment (rules R28, R72): the carrier in an active one, low in an inactive one. -/
def segWave (c : Config) (g : Segment) (j : Nat) : Bool := g.on && decide (j % c.carPeriod < c.carHigh)

/-- `ir_out` in cycle j of bit b: SegA, then SegB (rule R72). -/
def bitWave (c : Config) (b : Bool) (j : Nat) : Bool :=
  if j < (segA c b).len then segWave c (segA c b) j else segWave c (segB c b) (j - (segA c b).len)

/-! ## The sweep -/

/-- "OR over r with c_r != 0 of (r | (c_r << 4))" (40_scan.md rule R63), for samples listed from row r on. -/
def sweepOr : Nat → List Cols → Byte
  | _, [] => 0
  | r, c :: cs => (if c = 0 then 0 else BitVec.ofNat 8 r ||| (c.setWidth 8 <<< (4 : Nat))) ||| sweepOr (r + 1) cs

/-- The samples of the six SCAN_SAMPLE cycles of the press cycle that wakes in `s` (rule R64): row r is sampled
`DEBOUNCE + (r + 1) * (ROW_SETTLE + 1)` cycles after the wake. -/
def State.sweepSamples (s : State) : List Cols :=
  (List.range nRows).map fun r => s.colAt (s.cfg.debounce + (r + 1) * (s.cfg.rowSettle + 1))

end Sys2Proof.Machine
end

