-- ==== Sys2Proof/Safety.lean ====
section
/-! DEFINITION. What a safe run is, in the terms the claims use: the configurations rule R7 admits, said without the
checks of WellFormed.lean, and the invariant of the machine, operation by operation, with the rules each clause comes
from. RESET_STATE meets it and every cycle keeps it; in a state that meets it no stop is possible (rule R87). -/
namespace Sys2Proof

/-- The conditions of 00_scope.md rule R7, one conjunct for each item of its list. -/
def Config.Admitted (c : Config) : Prop :=
  (∀ i j : Fin 24, i ≠ j → c.keyTable[i] ≠ c.keyTable[j]) ∧
  (∀ i : Fin 24, c.funcTable[i].toNat < 64) ∧
  (1 ≤ c.ncols ∧ c.ncols ≤ 4) ∧
  (1 ≤ c.carPeriod ∧ c.carHigh ≤ c.carPeriod) ∧
  (∀ d ∈ [c.t1Off, c.t1On, c.t0On, c.t0Off, c.debounce, c.interframe, c.rowSettle], 1 ≤ d) ∧
  (∀ d ∈ [c.t1Off, c.t1On * c.carPeriod, c.t0On * c.carPeriod, c.t0Off, c.debounce, c.interframe, c.rowSettle],
    d < 2 ^ c.tmrW) ∧
  c.frameShift ≤ frameW - nBits ∧
  (c.addrMode = .fixed → ∀ i j : Fin 4, c.addrMap[i] = c.addrMap[j])

namespace Machine

/-! ## Parts of the invariant -/

/-- What holds in every operation: an admitted configuration (R7); `tmr` fits `TMR_W` bits (R14); `car_phase` lies in
0..`CAR_PERIOD`-1 (R25); `key_idx` is 0..23 or the sentinel (R19); `raw[7:4+NCOLS]` is 0, and a RawScanCode that is
not 0 names a column (R49); `col_prev` has `NCOLS` bits (R14). -/
structure State.Base (s : State) : Prop where
  config : s.cfg.wf = true
  timer : s.tmr < 2 ^ s.cfg.tmrW
  phase : s.carPhase < s.cfg.carPeriod
  key : s.keyIdx.toNat < 24 ∨ s.keyIdx = keySentinel
  rawColumns : s.raw.extractLsb' 4 4 &&& ~~~colMask s.cfg.ncols = 0
  rawNamesColumn : s.raw ≠ 0 → rawCols s.cfg.ncols s.raw ≠ 0
  prevColumns : s.colPrev &&& ~~~colMask s.cfg.ncols = 0

/-- "no transmitter-side state after completion" (R24, R78 (c)). -/
def State.TxClear (s : State) : Prop :=
  s.shreg = 0 ∧ s.bitcnt = 0 ∧ s.half = false ∧ s.segOn = false ∧ s.carPhase = 0

/-- The one-shot detector, set for `pol`: armed exactly while nothing has latched (R88 to R90). -/
def State.Watching (pol : EdgePol) (s : State) : Prop := s.edgePol = pol ∧ s.edgeEn = !s.edgeLatch

/-- The detector between the wake and SCAN_END: disarmed, nothing latched (R57, R58). -/
def State.Disarmed (s : State) : Prop := s.edgePol = .rise ∧ s.edgeEn = false ∧ s.edgeLatch = false

/-- A press cycle before RESOLVE: the sentinel, no NoMatch (R57), not in the transmit loop (R21), transmitter clear. -/
def State.Unresolved (s : State) : Prop :=
  s.keyIdx = keySentinel ∧ s.errNomatch = false ∧ s.heldDown = false ∧ s.TxClear

/-- A sweep in progress: an unresolved press cycle with the detector off and no error raised. -/
def State.Sweeping (s : State) : Prop := s.Unresolved ∧ s.Disarmed ∧ s.errNokey = false

/-- A press cycle that passed RESOLVE: `ERR = 0b00`, and `key_idx` is the index of the RawScanCode, which is not 0
(R69); release is watched for, and while it is, some column counts as asserted, so that it cannot be missed (R105). -/
def State.Resolved (s : State) : Prop :=
  s.errNokey = false ∧ s.errNomatch = false ∧ s.raw ≠ 0 ∧ memRead s.cfg.keyTable s.keyIdx.toNat = some s.raw ∧
  s.row = 0 ∧ s.Watching .fall ∧ (s.edgeEn = true → s.colPrev ≠ 0)

/-- The transmit and retransmit loop: a resolved press cycle with HeldDown set (R21) and the frame of its key and of
the toggle the press cycle started with (R81). -/
def State.Looping (s : State) : Prop :=
  s.Resolved ∧ s.heldDown = true ∧
  ∃ sel payload, memRead s.cfg.funcTable s.keyIdx.toNat = some payload ∧ s.frame = frameOf s.cfg payload sel s.toggle

/-- The segment that TX_SEG is in (R72, R74). -/
def State.segment (s : State) : Segment :=
  if s.half then segB s.cfg (s.shreg.getLsbD 15) else segA s.cfg (s.shreg.getLsbD 15)

/-! ## The invariant -/

/-- What holds at the start of a cycle of each operation. -/
def State.InvAt (s : State) : Instr → Prop
  | .idle => s.row = 0 ∧ s.tmr = 0 ∧ s.heldDown = false ∧ s.TxClear ∧ s.Watching .rise
  | .debounce => s.Sweeping ∧ s.row = 0 ∧ 1 ≤ s.tmr ∧ s.tmr ≤ s.cfg.debounce ∧ s.raw = 0
  | .scanDrive => s.Sweeping ∧ s.row.toNat < 6 ∧ 1 ≤ s.tmr ∧ s.tmr ≤ s.cfg.rowSettle
  | .scanSample => s.Sweeping ∧ s.row.toNat < 6 ∧ s.tmr = 0
  | .scanEnd => s.Sweeping ∧ s.row = 5 ∧ s.tmr = 0
  | .resolve =>
    s.Unresolved ∧ s.row = 0 ∧ s.tmr = 0 ∧ s.Watching .fall ∧ (s.errNokey = true ↔ s.raw = 0) ∧
    (s.raw ≠ 0 → s.edgeEn = true → s.colPrev ≠ 0)
  | .encode => s.Resolved ∧ s.heldDown = false ∧ s.tmr = 0 ∧ s.TxClear
  | .txLoad => s.Looping ∧ s.tmr = 0 ∧ s.TxClear
  | .txSeg =>
    s.Looping ∧ s.bitcnt.toNat < nBits ∧ s.shreg = s.frame <<< s.bitcnt.toNat ∧ s.segOn = s.segment.on ∧
    1 ≤ s.tmr ∧ s.tmr ≤ s.segment.len ∧ s.carPhase = (s.segment.len - s.tmr) % s.cfg.carPeriod
  | .txEnd => s.Looping ∧ s.bitcnt = 14 ∧ s.tmr ≤ 1
  | .decideTx => s.Looping ∧ s.tmr = 0 ∧ s.TxClear
  | .interframe => s.Looping ∧ 1 ≤ s.tmr ∧ s.tmr ≤ s.cfg.interframe ∧ s.TxClear

/-- The invariant: the code names an operation (R47), and what holds in every operation and in this one holds. -/
def State.Inv (s : State) : Prop := s.Base ∧ ∃ i, decode s.fsm = .ok i ∧ s.InvAt i

end Machine
end Sys2Proof
end

