-- ==== Sys2Proof/Certificates/Slice0/Obligations.lean ====
section
/-! DEFINITION. The statements for the provers. They come from the numbered rules of spec/ file by file; a docstring
names the rule or, for a derived one, the spec's sentence. `s` ranges over every state, so over every configuration
(`s.cfg`), unless a hypothesis says otherwise; `s.colIn` and `s.selIn` are this cycle's inputs. -/

open Sys2Proof Sys2Proof.Machine

/-! ## Encoding -/

/-- Rule R48: codes 0 to 11 select the operations of rule R46, codes 12 to 15 none. -/
def Obligations.OperationCodes : Prop :=
  decode 0b0000#4 = .ok .idle ∧ decode 0b0001#4 = .ok .debounce ∧ decode 0b0010#4 = .ok .scanDrive ∧
  decode 0b0011#4 = .ok .scanSample ∧ decode 0b0100#4 = .ok .scanEnd ∧ decode 0b0101#4 = .ok .resolve ∧
  decode 0b0110#4 = .ok .encode ∧ decode 0b0111#4 = .ok .txLoad ∧ decode 0b1000#4 = .ok .txSeg ∧
  decode 0b1001#4 = .ok .txEnd ∧ decode 0b1010#4 = .ok .decideTx ∧ decode 0b1011#4 = .ok .interframe ∧
  ∀ c : Code, 12 ≤ c.toNat → decode c = .error (.reserved c)

/-- Decoder and encoder agree, both ways (30_encoding.md section 1). -/
def Obligations.DecodeEncodeAgree : Prop :=
  (∀ i : Instr, decode (encode i) = .ok i) ∧ ∀ (c : Code) (i : Instr), decode c = .ok i → encode i = c

/-! ## The cycle step -/

/-- 10_state.md section 4, the cycle step: outside reset, in an admitted configuration, a step is the decoded
operation's `exec`, after which the inputs move on; a fault of `exec` is the step's fault, and no operation is refused.
The model's choices in it: that the inputs to come are `stim` and `cycle`, which move on by one (log entry 2, DESIGN
CHOICE), and that the boundary between `exec` and `step` lies here (log entry 5, DESIGN CHOICE). -/
def Obligations.StepRunsDecodedOperation : Prop :=
  ∀ (s : State) (i : Instr), s.cfg.wf = true → s.input.rst = false → decode s.fsm = .ok i →
    (∀ t, exec i s = .next t → step s = .next { t with stim := t.stim.tail, cycle := t.cycle + 1 }) ∧
    (∀ f, exec i s = .fault f → step s = .fault f) ∧ ∀ r, exec i s ≠ .refused r

/-- 70_reset_and_hazards.md section 1, reset application: one or more cycles of reset leave every register at its
reset value, whatever the state and the other inputs are. That meanwhile the inputs to come move on and are else kept
(`t.stim`, `t.cycle`) is the model's choice (log entry 2, DESIGN CHOICE). -/
def Obligations.ResetOverridesEverything : Prop :=
  ∀ (s : State) (n : Nat), s.cfg.wf = true → 1 ≤ n → (∀ k < n, (s.inputAt k).rst = true) →
    ∃ t, Reaches n s t ∧ t.cfg = s.cfg ∧ t.stim = s.stim.drop n ∧ t.cycle = s.cycle + n ∧
      t.fsm = 0 ∧ t.row = 0 ∧ t.tmr = 0 ∧ t.raw = 0 ∧ t.keyIdx = 31 ∧ t.errNokey = false ∧ t.errNomatch = false ∧
      t.heldDown = false ∧ t.toggle = false ∧ t.frame = 0 ∧ t.shreg = 0 ∧ t.bitcnt = 0 ∧ t.half = false ∧
      t.segOn = false ∧ t.carPhase = 0 ∧ t.edgeEn = true ∧ t.edgePol = .rise ∧ t.edgeLatch = false ∧ t.colPrev = 0

/-- Rule R102: RESET_STATE and its outputs, in every configuration. -/
def Obligations.ResetState : Prop :=
  (∀ (c : Config) (l : List Input) (n : Nat),
    let r := State.resetWith c l n
    r.fsm = encode .idle ∧ r.toggle = false ∧ r.heldDown = false ∧ r.errNokey = false ∧ r.errNomatch = false ∧
    r.keyIdx = 31 ∧ r.raw = 0 ∧ r.frame = 0 ∧
    r.row = 0 ∧ r.tmr = 0 ∧ r.shreg = 0 ∧ r.bitcnt = 0 ∧ r.half = false ∧ r.segOn = false ∧ r.carPhase = 0 ∧
    r.edgeEn = true ∧ r.edgePol = .rise ∧ r.edgeLatch = false ∧ r.colPrev = 0 ∧
    r.rowDrive = 0b111111 ∧ r.irOut = false ∧ r.pwrState = .deep) ∧
  ∃ c l n, State.reset = State.resetWith c l n

/-- Rule R7: exactly the configurations that miss one of the listed conditions are refused. -/
def Obligations.IllFormedConfigurationRefused : Prop :=
  ∀ s : State, (step s = .refused .illFormedConfig ↔ ¬s.cfg.Admitted) ∧
    (s.cfg.Admitted → ∀ r, step s ≠ .refused r)

/-- Rule R47: a reserved code stops the model, no operation writes one, and no run from RESET_STATE meets one. -/
def Obligations.ReservedCodesUnreachable : Prop :=
  (∀ s : State, s.cfg.wf = true → s.input.rst = false → 12 ≤ s.fsm.toNat → step s = .fault (.illegalState s.fsm)) ∧
  (∀ (i : Instr) (s t : State), decode s.fsm = .ok i → exec i s = .next t → t.fsm.toNat < 12) ∧
  ∀ (c : Config) (l : List Input) (m n : Nat) (t : State), c.wf = true → Reaches n (State.resetWith c l m) t →
    t.fsm.toNat < 12

/-- Rule R84: control goes only to the successors the operation's rule names. -/
def Obligations.SuccessorOperations : Prop :=
  ∀ (i : Instr) (s t : State), decode s.fsm = .ok i → exec i s = .next t →
    ∃ j, t.fsm = encode j ∧ j ∈ (match i with
      | .idle => [Instr.idle, .debounce]
      | .debounce => [.debounce, .scanDrive]
      | .scanDrive => [.scanDrive, .scanSample]
      | .scanSample => [.scanDrive, .scanEnd]
      | .scanEnd => [.resolve]
      | .resolve => [.encode, .idle]
      | .encode => [.txLoad]
      | .txLoad => [.txSeg]
      | .txSeg => [.txSeg, .txEnd]
      | .txEnd => [.decideTx]
      | .decideTx => [.interframe, .idle]
      | .interframe => [.interframe, .txLoad])

/-- Rule R14: each register is written only by the operations its row lists (a waiting detector's own registers may
change in every cycle, rule R88), the tables by none, and every register has the listed reset value. -/
def Obligations.RegisterWriters : Prop :=
  (∀ (i : Instr) (s t : State), exec i s = .next t →
    t.cfg = s.cfg ∧
    (i ∉ [Instr.debounce, .scanSample, .scanEnd] → t.row = s.row) ∧
    (i ∉ [Instr.idle, .debounce, .scanDrive, .scanSample, .txLoad, .txSeg, .txEnd, .decideTx, .interframe] →
      t.tmr = s.tmr) ∧
    (i ∉ [Instr.idle, .scanSample] → t.raw = s.raw) ∧
    (i ∉ [Instr.idle, .resolve] → t.keyIdx = s.keyIdx) ∧
    (i ∉ [Instr.idle, .scanEnd] → t.errNokey = s.errNokey) ∧
    (i ∉ [Instr.idle, .resolve] → t.errNomatch = s.errNomatch) ∧
    (i ∉ [Instr.encode, .decideTx] → t.heldDown = s.heldDown) ∧
    (i ∉ [Instr.decideTx] → t.toggle = s.toggle) ∧
    (i ∉ [Instr.encode] → t.frame = s.frame) ∧
    (i ∉ [Instr.txLoad, .txSeg, .txEnd] →
      t.shreg = s.shreg ∧ t.bitcnt = s.bitcnt ∧ t.half = s.half ∧ t.segOn = s.segOn) ∧
    (i ∉ [Instr.txLoad, .txSeg, .txEnd, .decideTx] → t.carPhase = s.carPhase) ∧
    (i ∉ [Instr.scanEnd, .resolve, .decideTx] → t.edgePol = s.edgePol)) ∧
  ∀ (c : Config) (l : List Input) (n : Nat),
    State.resetWith c l n =
      { cfg := c, stim := l, cycle := n, fsm := 0, row := 0, tmr := 0, raw := 0, keyIdx := 31, errNokey := false,
        errNomatch := false, heldDown := false, toggle := false, frame := 0, shreg := 0, bitcnt := 0, half := false,
        segOn := false, carPhase := 0, edgeEn := true, edgePol := .rise, edgeLatch := false, colPrev := 0 }

/-! ## The scan family -/

/-- Rule R57, IDLE. -/
def Obligations.IdleWaitsForAnEdge : Prop :=
  encode .idle = 0b0000 ∧ ∀ s : State,
    (s.fsm = 0b0000 → s.rowDrive = 0b111111 ∧ s.irOut = false ∧ s.pwrState = .deep) ∧
    (s.edgeLatch = true → exec .idle s = .next { s.edgeUpdate with
      edgeLatch := false, errNokey := false, errNomatch := false, raw := 0, keyIdx := 31, tmr := s.cfg.debounce,
      fsm := 0b0001 }) ∧
    (s.edgeLatch = false → exec .idle s = .next s.edgeUpdate)

/-- Rule R58, DEBOUNCE. -/
def Obligations.DebounceDelays : Prop :=
  encode .debounce = 0b0001 ∧ ∀ s : State,
    (s.fsm = 0b0001 → s.rowDrive = 0b111111 ∧ s.irOut = false ∧ s.pwrState = .light) ∧
    (1 < s.tmr → exec .debounce s = .next { s.edgeUpdate with tmr := s.tmr - 1 }) ∧
    (s.tmr ≤ 1 → exec .debounce s = .next { s.edgeUpdate with row := 0, tmr := s.cfg.rowSettle, fsm := 0b0010 })

/-- Rule R59, SCAN_DRIVE; the driven line is the row's own. -/
def Obligations.ScanDriveSettles : Prop :=
  encode .scanDrive = 0b0010 ∧ ∀ s : State,
    (s.fsm = 0b0010 → s.row.toNat < 6 → (∀ r < 6, s.rowDrive.getLsbD r = decide (r = s.row.toNat)) ∧
      s.irOut = false ∧ s.pwrState = .active) ∧
    (1 < s.tmr → exec .scanDrive s = .next { s.edgeUpdate with tmr := s.tmr - 1 }) ∧
    (s.tmr ≤ 1 → exec .scanDrive s = .next { s.edgeUpdate with tmr := 0, fsm := 0b0011 })

/-- Rule R61, SCAN_SAMPLE. -/
def Obligations.ScanSampleAccumulates : Prop :=
  encode .scanSample = 0b0011 ∧ ∀ s : State,
    (s.fsm = 0b0011 → s.row.toNat < 6 → (∀ r < 6, s.rowDrive.getLsbD r = decide (r = s.row.toNat)) ∧
      s.irOut = false ∧ s.pwrState = .active) ∧
    ∀ raw', raw' = (if s.colIn = 0 then s.raw
        else s.raw ||| BitVec.ofNat 8 s.row.toNat ||| BitVec.ofNat 8 (16 * s.colIn.toNat)) →
      (s.row.toNat = 5 → exec .scanSample s = .next { s.edgeUpdate with raw := raw', fsm := 0b0100 }) ∧
      (s.row.toNat ≠ 5 → exec .scanSample s = .next { s.edgeUpdate with
        raw := raw', row := s.row + 1, tmr := s.cfg.rowSettle, fsm := 0b0010 })

/-- Rule R62, SCAN_END; the baseline is `raw[COL_SHIFT + NCOLS - 1 : COL_SHIFT]`, said bit by bit. -/
def Obligations.ScanEndDecidesNoKey : Prop :=
  encode .scanEnd = 0b0100 ∧ ∀ s : State,
    (s.fsm = 0b0100 → s.rowDrive = 0b111111 ∧ s.irOut = false ∧ s.pwrState = .active) ∧
    ∃ base : Cols, (∀ c < 4, base.getLsbD c = (decide (c < s.cfg.ncols) && s.raw.getLsbD (4 + c))) ∧
      (s.raw = 0 → exec .scanEnd s = .next { s with
        errNokey := true, edgeEn := true, edgePol := .fall, edgeLatch := false, colPrev := base, row := 0,
        fsm := 0b0101 }) ∧
      (s.raw ≠ 0 → exec .scanEnd s = .next { s with
        edgeEn := true, edgePol := .fall, edgeLatch := false, colPrev := base, row := 0, fsm := 0b0101 })

/-! ## The resolve and encode family -/

/-- Rule R65: the match is the largest index that holds the value, and there is none when no entry does. -/
def Obligations.LastMatchIsLargestIndex : Prop :=
  ∀ (c : Config) (v : Byte),
    (∀ m, lastMatch c v = some m ↔
      ∃ h : m < 24, c.keyTable[m] = v ∧ ∀ (j : Nat) (hj : j < 24), m < j → c.keyTable[j] ≠ v) ∧
    (lastMatch c v = none ↔ ∀ (j : Nat) (hj : j < 24), c.keyTable[j] ≠ v)

/-- Rule R68, RESOLVE: match, NoMatch, and the error exit of either flag. -/
def Obligations.ResolveMatchesOrExits : Prop :=
  encode .resolve = 0b0101 ∧ ∀ s : State,
    (s.fsm = 0b0101 → s.rowDrive = 0b111111 ∧ s.irOut = false ∧ s.pwrState = .active) ∧
    (lastMatch s.cfg s.raw = none → exec .resolve s = .next { s with
      errNomatch := true, keyIdx := 31, edgeEn := true, edgePol := .rise, edgeLatch := false, colPrev := s.colIn,
      fsm := 0b0000 }) ∧
    (∀ m, lastMatch s.cfg s.raw = some m →
      (s.errNokey = true → exec .resolve s = .next { s with
        keyIdx := BitVec.ofNat 5 m, edgeEn := true, edgePol := .rise, edgeLatch := false, colPrev := s.colIn,
        fsm := 0b0000 }) ∧
      (s.errNokey = false → exec .resolve s = .next { s.edgeUpdate with keyIdx := BitVec.ofNat 5 m, fsm := 0b0110 }))

/-- 41_resolve_encode.md section 2, resolver properties ("For each i in 0..23 in a well-formed configuration, RESOLVE
with `s.raw = KEY_TABLE[i]` and `s.err_nokey = 0` writes `key_idx = i` and goes to ENCODE"): each table code resolves
to its own index and ENCODE then packs the payload at that index; a code in no entry exits to IDLE; and from the
invariant RESOLVE goes to ENCODE exactly when no error is recorded after it. -/
def Obligations.KeyCodesResolve : Prop :=
  (∀ (s : State) (i : Nat) (hi : i < 24), s.cfg.wf = true → s.raw = s.cfg.keyTable[i] → s.errNokey = false →
    ∃ t, exec .resolve s = .next t ∧ t.keyIdx.toNat = i ∧ t.fsm = encode .encode ∧
      ∃ u, exec .encode t = .next u ∧ u.frame = frameOf t.cfg t.cfg.funcTable[i] t.selIn t.toggle) ∧
  (∀ s : State, (∀ (i : Nat) (hi : i < 24), s.raw ≠ s.cfg.keyTable[i]) →
    ∃ t, exec .resolve s = .next t ∧ t.errNomatch = true ∧ t.keyIdx = 31 ∧ t.fsm = encode .idle ∧
      t.frame = s.frame) ∧
  ∀ s t : State, s.Inv → decode s.fsm = .ok .resolve → exec .resolve s = .next t →
    (t.fsm = encode .encode ↔ t.err = 0b00)

/-- Rules R70 and R66, ENCODE on a resolved index: the sum modulo 2^16, shifted left. -/
def Obligations.EncodePacksFrame : Prop :=
  encode .encode = 0b0110 ∧ ∀ s : State,
    (s.fsm = 0b0110 → s.rowDrive = 0b111111 ∧ s.irOut = false ∧ s.pwrState = .active) ∧
    ∀ h : s.keyIdx.toNat < 24, exec .encode s = .next { s.edgeUpdate with
      frame := BitVec.ofNat 16 ((s.cfg.startBits.toNat + (addrOf s.cfg s.selIn).toNat +
        (s.cfg.funcTable[s.keyIdx.toNat]).toNat + (if s.toggle then s.cfg.toggleOffset.toNat else 0)) *
        2 ^ s.cfg.frameShift)
      heldDown := true
      fsm := 0b0111 }

/-- Rule R67: `ADDR(sel)`, and the agreement of the two readings in FIXED mode. -/
def Obligations.AddressMapping : Prop :=
  ∀ (c : Config) (sel : BitVec 2),
    (c.addrMode = .selector → ∀ i : Fin 4, sel.toNat = i.val → addrOf c sel = c.addrMap[i]) ∧
    (c.addrMode = .fixed → addrOf c sel = c.addrMap[0]) ∧
    (c.wf = true → ∀ i : Fin 4, sel.toNat = i.val → addrOf c sel = c.addrMap[i])

/-- Rule R35: entry i for i in 0..23 of either table, nothing above; ENCODE on an absent index stops with RomIndex;
and the invariant leaves no such index to ENCODE. -/
def Obligations.RomReads : Prop :=
  (∀ (rom : Vector Byte 24) (i : Nat) (h : i < 24), memRead rom i = some rom[i]) ∧
  (∀ (rom : Vector Byte 24) (i : Nat), 24 ≤ i → memRead rom i = none) ∧
  (∀ s : State, 24 ≤ s.keyIdx.toNat → exec .encode s = .fault (.romIndex s.keyIdx.toNat)) ∧
  ∀ s : State, s.Inv → decode s.fsm = .ok .encode → s.keyIdx.toNat < 24

/-- 41_resolve_encode.md section 3, frame properties (a), (b) and (d): what the toggle adds to a frame and when the
two toggle values differ; when two selector states differ; and the window that is sent. -/
def Obligations.FrameDistinctness : Prop :=
  ∀ (c : Config) (p : Byte),
    (∀ sel, frameOf c p sel true = frameOf c p sel false + c.toggleOffset <<< c.frameShift) ∧
    (∀ sel, frameOf c p sel true ≠ frameOf c p sel false ↔ c.toggleOffset <<< c.frameShift ≠ 0) ∧
    (∀ sel sel' t, frameOf c p sel t = frameOf c p sel' t ↔
      addrOf c sel <<< c.frameShift = addrOf c sel' <<< c.frameShift) ∧
    ∀ f g : FrameWord, (∀ k < 14, sentBit f k = sentBit g k) ↔ frameWindow f = frameWindow g

/-! ## The transmit family -/

/-- Rule R72: the segment table. -/
def Obligations.SegmentTable : Prop :=
  ∀ c : Config,
    segA c true = ⟨false, c.t1Off⟩ ∧ segB c true = ⟨true, c.t1On * c.carPeriod⟩ ∧
    segA c false = ⟨true, c.t0On * c.carPeriod⟩ ∧ segB c false = ⟨false, c.t0Off⟩ ∧
    bitCycles c true = c.t1Off + c.t1On * c.carPeriod ∧ bitCycles c false = c.t0On * c.carPeriod + c.t0Off

/-- Rule R73, TX_LOAD. -/
def Obligations.TxLoadStartsFrame : Prop :=
  encode .txLoad = 0b0111 ∧ ∀ s : State,
    (s.fsm = 0b0111 → s.rowDrive = 0b111111 ∧ s.irOut = false ∧ s.pwrState = .active) ∧
    exec .txLoad s = .next { s.edgeUpdate with
      shreg := s.frame, bitcnt := 0, half := false, segOn := !s.frame.getLsbD 15,
      tmr := if s.frame.getLsbD 15 then s.cfg.t1Off else s.cfg.t0On * s.cfg.carPeriod, carPhase := 0, fsm := 0b1000 }

/-- Rule R74, TX_SEG: a tick, the end of a first segment, the end of a bit, the end of the frame. -/
def Obligations.TxSegRunsSegments : Prop :=
  encode .txSeg = 0b1000 ∧ ∀ s : State,
    (s.fsm = 0b1000 → s.rowDrive = 0b111111 ∧ s.pwrState = .light ∧
      (s.irOut = true ↔ s.segOn = true ∧ s.carPhase < s.cfg.carHigh)) ∧
    (1 < s.tmr → exec .txSeg s = .next { s.edgeUpdate with
      carPhase := (s.carPhase + 1) % s.cfg.carPeriod, tmr := s.tmr - 1 }) ∧
    (s.tmr ≤ 1 → s.half = false → exec .txSeg s = .next { s.edgeUpdate with
      half := true, segOn := s.shreg.getLsbD 15,
      tmr := if s.shreg.getLsbD 15 then s.cfg.t1On * s.cfg.carPeriod else s.cfg.t0Off, carPhase := 0 }) ∧
    (s.tmr ≤ 1 → s.half = true → s.bitcnt.toNat + 1 ≠ 14 → exec .txSeg s = .next { s.edgeUpdate with
      shreg := s.shreg <<< 1, bitcnt := s.bitcnt + 1, half := false, segOn := !s.shreg.getLsbD 14,
      tmr := if s.shreg.getLsbD 14 then s.cfg.t1Off else s.cfg.t0On * s.cfg.carPeriod, carPhase := 0 }) ∧
    (s.tmr ≤ 1 → s.half = true → s.bitcnt.toNat + 1 = 14 → exec .txSeg s = .next { s.edgeUpdate with
      carPhase := (s.carPhase + 1) % s.cfg.carPeriod, shreg := s.shreg <<< 1, bitcnt := 14, fsm := 0b1001 })

/-- Rule R75, TX_END. -/
def Obligations.TxEndClears : Prop :=
  encode .txEnd = 0b1001 ∧ ∀ s : State,
    (s.fsm = 0b1001 → s.rowDrive = 0b111111 ∧ s.irOut = false ∧ s.pwrState = .active) ∧
    exec .txEnd s = .next { s.edgeUpdate with
      tmr := 0, carPhase := 0, segOn := false, half := false, shreg := 0, bitcnt := 0, fsm := 0b1010 }

/-! ## The retransmit family -/

/-- Rule R79, DECIDE: the two RETRANSMIT branches and ENDTRANSMIT. -/
def Obligations.DecideRetransmitsOrEnds : Prop :=
  encode .decideTx = 0b1010 ∧ ∀ s : State,
    (s.fsm = 0b1010 → s.rowDrive = 0b111111 ∧ s.irOut = false ∧ s.pwrState = .active) ∧
    (s.edgeLatch = false → exec .decideTx s = .next { s.edgeUpdate with tmr := s.cfg.interframe, fsm := 0b1011 }) ∧
    (s.edgeLatch = true → s.colIn ≠ 0 → exec .decideTx s = .next { s with
      edgeEn := true, edgePol := .fall, edgeLatch := false, colPrev := s.colIn, tmr := s.cfg.interframe,
      fsm := 0b1011 }) ∧
    (s.edgeLatch = true → s.colIn = 0 → exec .decideTx s = .next { s with
      heldDown := false, tmr := 0, carPhase := 0, toggle := !s.toggle, edgeEn := true, edgePol := .rise,
      edgeLatch := false, colPrev := 0, fsm := 0b0000 })

/-- Rule R80, INTERFRAME. -/
def Obligations.InterframeDelays : Prop :=
  encode .interframe = 0b1011 ∧ ∀ s : State,
    (s.fsm = 0b1011 → s.rowDrive = 0b111111 ∧ s.irOut = false ∧ s.pwrState = .light) ∧
    (1 < s.tmr → exec .interframe s = .next { s.edgeUpdate with tmr := s.tmr - 1 }) ∧
    (s.tmr ≤ 1 → exec .interframe s = .next { s.edgeUpdate with tmr := 0, fsm := 0b0111 })

/-! ## The edge detector -/

/-- Rule R88: an armed detector that sees its edge latches and disarms itself, any other only tracks the columns; and
this is what every operation does to the four detector registers, but where its rule itself writes them. -/
def Obligations.EdgeDetectorUpdate : Prop :=
  (∀ (s : State) (hit : Prop),
    (hit ↔ match s.edgePol with
      | .rise => ∃ c < 4, s.colIn.getLsbD c = true ∧ s.colPrev.getLsbD c = false
      | .fall => ∃ c < 4, s.colPrev.getLsbD c = true ∧ s.colIn.getLsbD c = false) →
    (s.edgeEn = true ∧ hit → s.edgeUpdate = { s with colPrev := s.colIn, edgeLatch := true, edgeEn := false }) ∧
    (¬(s.edgeEn = true ∧ hit) → s.edgeUpdate = { s with colPrev := s.colIn })) ∧
  ∀ (i : Instr) (s t : State), exec i s = .next t → i ≠ .scanEnd → (i = .idle → s.edgeLatch = false) →
    (i = .resolve → s.errNokey = false ∧ lastMatch s.cfg s.raw ≠ none) → (i = .decideTx → s.edgeLatch = false) →
    t.edgeEn = s.edgeUpdate.edgeEn ∧ t.edgePol = s.edgePol ∧ t.edgeLatch = s.edgeUpdate.edgeLatch ∧
      t.colPrev = s.colIn

/-- Rule R89: every entry into IDLE arms for a press against the current columns, so that a key already held does not
latch; reset arms the same way with `col_prev = 0`. -/
def Obligations.EntryIntoIdleArmsPress : Prop :=
  (∀ (i : Instr) (s t : State), decode s.fsm = .ok i → i ≠ .idle → exec i s = .next t → t.fsm = encode .idle →
    (i = .resolve ∨ i = .decideTx) ∧
    t.edgeEn = true ∧ t.edgePol = .rise ∧ t.edgeLatch = false ∧ t.colPrev = s.colIn) ∧
  (∀ s : State, s.edgePol = .rise → (∀ c < 4, s.colIn.getLsbD c = true → s.colPrev.getLsbD c = true) →
    s.edgeUpdate.edgeLatch = s.edgeLatch) ∧
  ∀ (c : Config) (l : List Input) (n : Nat),
    (State.resetWith c l n).edgeEn = true ∧ (State.resetWith c l n).edgePol = .rise ∧
    (State.resetWith c l n).edgeLatch = false ∧ (State.resetWith c l n).colPrev = 0

/-- Rule R90: ArmRelease is performed by SCAN_END with the columns seen in the sweep and by DECIDE's re-arm with the
current ones, and by nothing else. -/
def Obligations.ReleaseArming : Prop :=
  (∀ s t : State, exec .scanEnd s = .next t →
    t.edgeEn = true ∧ t.edgePol = .fall ∧ t.edgeLatch = false ∧ t.colPrev = rawCols s.cfg.ncols s.raw) ∧
  (∀ s t : State, exec .decideTx s = .next t → s.edgeLatch = true → s.colIn ≠ 0 →
    t.edgeEn = true ∧ t.edgePol = .fall ∧ t.edgeLatch = false ∧ t.colPrev = s.colIn) ∧
  ∀ (i : Instr) (s t : State), exec i s = .next t → s.edgePol = .rise → t.edgePol = .fall →
    i = .scanEnd ∨ (i = .decideTx ∧ s.edgeLatch = true ∧ s.colIn ≠ 0)

/-- 60_exceptions.md section 6: "Re-enabling the edge detector happens only through" the two armings, and a latched
edge is dropped only by them or by the waking IDLE. -/
def Obligations.OneShotDetector : Prop :=
  ∀ (i : Instr) (s t : State), exec i s = .next t →
    (s.edgeEn = false → t.edgeEn = true → i = .scanEnd ∨ (i = .resolve ∧ t.fsm = encode .idle) ∨
      (i = .decideTx ∧ s.edgeLatch = true)) ∧
    (s.edgeLatch = true → t.edgeLatch = false → i = .idle ∨ i = .scanEnd ∨ (i = .resolve ∧ t.fsm = encode .idle) ∨
      i = .decideTx)

/-! ## Outputs -/

/-- 10_state.md section 3, row drive: one row line in SCAN_DRIVE and SCAN_SAMPLE, all six in every other operation.
With a wired keypad (30_encoding.md section 3, the `key(r,c)` shorthand) the columns then show exactly the closed keys
of the driven row, or of any row: "since every key then asserts its column". -/
def Obligations.RowDriveSelectsKeys : Prop :=
  ∀ (s : State) (keys : List (Nat × Nat)) (c : Nat), c < 4 →
    (s.fsm.toNat = 2 ∨ s.fsm.toNat = 3 → s.row.toNat < 6 →
      (∀ r < 6, s.rowDrive.getLsbD r = decide (r = s.row.toNat)) ∧
      ((keyCols s.rowDrive keys).getLsbD c = true ↔ (s.row.toNat, c) ∈ keys)) ∧
    (s.fsm.toNat ≠ 2 → s.fsm.toNat ≠ 3 →
      s.rowDrive = 0b111111 ∧ ((keyCols s.rowDrive keys).getLsbD c = true ↔ ∃ r < 6, (r, c) ∈ keys))

/-- Rules R28 and R29 with the codes of rule R53. -/
def Obligations.OutputFunctions : Prop :=
  ∀ s : State,
    (s.irOut = true ↔ s.fsm.toNat = 8 ∧ s.segOn = true ∧ s.carPhase < s.cfg.carHigh) ∧
    (∀ i, decode s.fsm = .ok i →
      (s.pwrState = .deep ↔ i = .idle) ∧
      (s.pwrState = .light ↔ i = .debounce ∨ i = .txSeg ∨ i = .interframe) ∧
      (s.pwrState = .active ↔ i ∉ [Instr.idle, .debounce, .txSeg, .interframe])) ∧
    pwrCode .active = 0 ∧ pwrCode .light = 1 ∧ pwrCode .deep = 2 ∧ s.outputs.pwr ≠ 3 ∧
    s.outputs.rowDrive = s.rowDrive ∧ s.outputs.irOut = s.irOut ∧ s.outputs.pwr = pwrCode s.pwrState

/-- The outputs in a reserved code: `row_drive` and `ir_out` as the "otherwise" branches of 10_state.md section 3 say,
and `pwr_state` ACTIVE, for which the spec gives no value: the model's choice (log entry 12, DESIGN CHOICE). -/
def Obligations.ReservedCodeOutputs : Prop :=
  ∀ s : State, 12 ≤ s.fsm.toNat → s.rowDrive = 0b111111 ∧ s.irOut = false ∧ s.pwrState = .active

/-- Rule R52: the error status code. -/
def Obligations.ErrorStatusCode : Prop :=
  ∀ s : State,
    (s.err = 0b00 ↔ s.errNokey = false ∧ s.errNomatch = false) ∧
    (s.err = 0b01 ↔ s.errNokey = true ∧ s.errNomatch = false) ∧
    (s.err = 0b10 ↔ s.errNokey = false ∧ s.errNomatch = true) ∧
    (s.err = 0b11 ↔ s.errNokey = true ∧ s.errNomatch = true)

/-! ## Rules about the whole machine -/

/-- Rule R20: the error flags are cleared by the waking IDLE, set by SCAN_END and RESOLVE as their rules say, kept by
every other cycle without reset, and may both be 1. -/
def Obligations.ErrorFlagLifecycle : Prop :=
  (∀ (i : Instr) (s t : State), exec i s = .next t →
    t.errNokey = (if i = .idle ∧ s.edgeLatch = true then false
      else if i = .scanEnd ∧ s.raw = 0 then true else s.errNokey) ∧
    t.errNomatch = (if i = .idle ∧ s.edgeLatch = true then false
      else if i = .resolve ∧ lastMatch s.cfg s.raw = none then true else s.errNomatch)) ∧
  ∃ s t : State, s.Inv ∧ decode s.fsm = .ok .resolve ∧ exec .resolve s = .next t ∧ t.err = 0b11

/-- Rule R22: `toggle` is written only by the flip of ENDTRANSMIT and read only by ENCODE, survives every operation,
and only reset sets it. -/
def Obligations.ToggleWriteAndRead : Prop :=
  (∀ s t : State, s.cfg.wf = true → step s = .next t →
    t.toggle = (if s.input.rst then false
      else if s.fsm = encode .decideTx ∧ s.edgeLatch = true ∧ s.colIn = 0 then !s.toggle else s.toggle)) ∧
  ∀ (i : Instr) (s t : State) (b : Bool), i ≠ .encode → exec i s = .next t →
    exec i { s with toggle := b } = .next { t with toggle := if t.toggle = s.toggle then b else !b }

/-- Rule R21: ENCODE sets `held_down`, ENDTRANSMIT clears it, and no rule reads it. -/
def Obligations.HeldDownIsObservableOnly : Prop :=
  (∀ (i : Instr) (s t : State), exec i s = .next t →
    t.heldDown = (if i = .encode then true
      else if i = .decideTx ∧ s.edgeLatch = true ∧ s.colIn = 0 then false else s.heldDown)) ∧
  ∀ (i : Instr) (s t : State) (b : Bool), exec i s = .next t →
    ∃ b', exec i { s with heldDown := b } = .next { t with heldDown := b' }

/-- 41_resolve_encode.md section 3: "The selector is read only here", in ENCODE: elsewhere a change of `addr_sel`
changes nothing but the inputs to come. -/
def Obligations.SelectorReadOnlyByEncode : Prop :=
  ∀ (i : Instr) (s t : State) (a : Input) (rest : List Input) (sel : BitVec 2), i ≠ .encode → s.stim = a :: rest →
    exec i s = .next t →
    exec i { s with stim := { a with sel := sel } :: rest } = .next { t with stim := { a with sel := sel } :: rest }

/-- 60_exceptions.md section 6: "An edge during a timed wait (LIGHT state) only latches. It does not end the wait".
In every operation that does not read the columns or the latch, whatever the columns do and whatever state the
detector is in, no other register comes out differently. -/
def Obligations.EdgesNeverDisturbAWait : Prop :=
  ∀ (i : Instr) (s t : State) (l : List Input) (n : Nat) (en latch : Bool) (pol : EdgePol) (prev : Cols),
    i ∉ [Instr.idle, .scanSample, .resolve, .decideTx] → exec i s = .next t →
    ∀ s', s' = { s with stim := l, cycle := n, edgeEn := en, edgePol := pol, edgeLatch := latch, colPrev := prev } →
      s'.selIn = s.selIn →
      ∃ t', exec i s' = .next t' ∧
        { t' with stim := t.stim, cycle := t.cycle, edgeEn := t.edgeEn, edgePol := t.edgePol,
                  edgeLatch := t.edgeLatch, colPrev := t.colPrev } = t

/-- 60_exceptions.md section 7, the table of power states: DEEP ends exactly by a latched edge, LIGHT only by timer
expiry, and an ACTIVE operation is left by its own completion: SCAN_DRIVE exactly at its timer expiry, every other one
in its one cycle. -/
def Obligations.SleepEndsOnlyByItsEvent : Prop :=
  ∀ (i : Instr) (s t : State), decode s.fsm = .ok i → exec i s = .next t →
    (s.pwrState = .deep → (t.pwrState ≠ .deep ↔ s.edgeLatch = true)) ∧
    (s.pwrState = .light → t.fsm ≠ s.fsm → s.tmr ≤ 1) ∧
    (s.pwrState = .light → i ≠ .txSeg → s.tmr ≤ 1 → t.pwrState = .active) ∧
    (s.pwrState = .active → i = .scanDrive → (t.fsm ≠ s.fsm ↔ s.tmr ≤ 1)) ∧
    (s.pwrState = .active → i ≠ .scanDrive → t.fsm ≠ s.fsm)

/-- Rule R17: a wait that starts with `tmr = N` lasts exactly N cycles, in which `tmr` is N, N-1, ..., 1. Three of the
waiting operations then go to their successor; TX_SEG then starts the bit's second segment or completes the bit. -/
def Obligations.WaitLastsExactly : Prop :=
  (∀ (s : State) (i j : Instr) (n : Nat),
    (i, j) ∈ [(Instr.debounce, Instr.scanDrive), (.scanDrive, .scanSample), (.interframe, .txLoad)] →
    s.cfg.wf = true → s.fsm = encode i → s.tmr = n → 1 ≤ n → s.noReset n →
    (∀ k < n, ∃ t, Reaches k s t ∧ t.fsm = encode i ∧ t.tmr = n - k) ∧
    ∃ t, Reaches n s t ∧ t.fsm = encode j ∧ opTrace n s = List.replicate n i) ∧
  ∀ (s : State) (n : Nat),
    s.cfg.wf = true → s.fsm = encode .txSeg → s.tmr = n → 1 ≤ n → s.noReset n →
    (∀ k < n, ∃ t, Reaches k s t ∧ t.fsm = encode .txSeg ∧ t.tmr = n - k ∧ t.half = s.half ∧ t.bitcnt = s.bitcnt) ∧
    ∃ t, Reaches n s t ∧ opTrace n s = List.replicate n .txSeg ∧
      (s.half = false → t.half = true ∧ t.bitcnt = s.bitcnt) ∧ (s.half = true → t.bitcnt = s.bitcnt + 1)

/-! ## The invariant -/

/-- RESET_STATE meets the invariant in every admitted configuration. The second clause also needs the configuration
that `State.reset` carries to be admitted, which rests on the values of `Config.nominal`: the model's choice (log entry
1, DESIGN CHOICE). -/
def Obligations.ResetMeetsInvariant : Prop :=
  (∀ (c : Config) (l : List Input) (n : Nat), c.wf = true → (State.resetWith c l n).Inv) ∧ State.reset.Inv

/-- Every step, reset cycles included, keeps the invariant. -/
def Obligations.StepKeepsInvariant : Prop :=
  ∀ s t : State, s.Inv → step s = .next t → t.Inv

/-- 60_exceptions.md section 2: "None of these is reachable in a well-formed configuration from RESET_STATE": no stop
is possible where the invariant holds, and runs of every length exist. -/
def Obligations.NoStopIsReachable : Prop :=
  (∀ s : State, s.Inv → ∃ t, step s = .next t) ∧
  ∀ (c : Config) (l : List Input) (m n : Nat), c.wf = true → ∃ t, Reaches n (State.resetWith c l m) t

/-! ## Runs of a press cycle -/

/-- 40_scan.md, scan result and scan duration: from the waking IDLE cycle w, SCAN_END falls at cycle
`w + DEBOUNCE + 6*(ROW_SETTLE+1) + 1` with `raw` the OR over the sampled rows, and RESOLVE one cycle later, with
`err_nokey = 1` if and only if every sample was 0. -/
def Obligations.SweepBuildsScanCode : Prop :=
  ∀ (s : State) (n : Nat), s.cfg.wf = true → s.fsm = encode .idle → s.edgeLatch = true →
    n = s.cfg.debounce + 6 * (s.cfg.rowSettle + 1) + 1 → s.noReset (n + 1) →
    opTrace (n + 1) s = [Instr.idle] ++ debounceOps s.cfg ++ scanOps s.cfg ∧
    (∃ t, Reaches n s t ∧ t.fsm = encode .scanEnd ∧ t.raw = sweepOr 0 s.sweepSamples ∧ t.row = 5 ∧
      t.keyIdx = 31 ∧ t.errNokey = false ∧ t.errNomatch = false ∧ t.toggle = s.toggle ∧ t.frame = s.frame) ∧
    ∃ u, Reaches (n + 1) s u ∧ u.fsm = encode .resolve ∧ u.raw = sweepOr 0 s.sweepSamples ∧
      (u.errNokey = true ↔ ∀ c ∈ s.sweepSamples, c = 0)

/-- 40_scan.md, scan result: "a single wired key at (r, c), held through the sweep, gives `raw = (1 << (4 + c)) | r`
and `err_nokey = 0`". In each SCAN_SAMPLE cycle the columns are what the wired key shows to the line driven there;
the second clause says that it is the line of that cycle's row. -/
def Obligations.SingleKeyScanCode : Prop :=
  ∀ (s : State) (r c n : Nat), r < 6 → c < s.cfg.ncols → s.cfg.wf = true → s.fsm = encode .idle →
    s.edgeLatch = true → n = s.cfg.debounce + 6 * (s.cfg.rowSettle + 1) + 1 → s.noReset (n + 1) →
    (∀ r' < 6, s.colAt (s.cfg.debounce + (r' + 1) * (s.cfg.rowSettle + 1)) =
      keyCols (onehot6 (BitVec.ofNat 3 r')) [(r, c)]) →
    (∃ t, Reaches n s t ∧ t.fsm = encode .scanEnd ∧ t.raw = BitVec.ofNat 8 (2 ^ (4 + c)) ||| BitVec.ofNat 8 r ∧
      t.raw ≠ 0) ∧
    (∀ r' < 6, ∃ v, Reaches (s.cfg.debounce + (r' + 1) * (s.cfg.rowSettle + 1)) s v ∧
      v.fsm = encode .scanSample ∧ v.row.toNat = r' ∧ v.rowDrive = onehot6 (BitVec.ofNat 3 r')) ∧
    ∃ u, Reaches (n + 1) s u ∧ u.fsm = encode .resolve ∧
      u.raw = BitVec.ofNat 8 (2 ^ (4 + c)) ||| BitVec.ofNat 8 r ∧ u.errNokey = false

/-- 42_transmit.md, frame duration and transmitter invariants: from TX_LOAD the operations are those of `FRAME(f)`
(30_encoding.md, pseudo-operations), which take `D(f) + 2` cycles, and DECIDE follows with the transmitter clear and
the frame, the flags and the key kept. -/
def Obligations.FrameTransmission : Prop :=
  ∀ (s : State) (n : Nat), s.cfg.wf = true → s.fsm = encode .txLoad → n = frameCycles s.cfg s.frame + 2 →
    s.noReset n →
    (frameOps s.cfg s.frame).length = n ∧ opTrace n s = frameOps s.cfg s.frame ∧
    ∃ t, Reaches n s t ∧ t.fsm = encode .decideTx ∧ t.frame = s.frame ∧ t.toggle = s.toggle ∧
      t.heldDown = s.heldDown ∧ t.keyIdx = s.keyIdx ∧ t.raw = s.raw ∧ t.errNokey = s.errNokey ∧
      t.errNomatch = s.errNomatch ∧ t.row = s.row ∧ t.edgePol = s.edgePol ∧
      t.tmr = 0 ∧ t.carPhase = 0 ∧ t.shreg = 0 ∧ t.bitcnt = 0 ∧ t.half = false ∧ t.segOn = false

/-- 42_transmit.md, emitter waveform of one frame: bits `f[15]` to `f[2]` in that order, each as SegA then SegB, the
carrier high in the first `CAR_HIGH` cycles of each period of an active segment, low in every other cycle from
TX_LOAD to TX_END. -/
def Obligations.FrameWaveform : Prop :=
  ∀ (s : State), s.cfg.wf = true → s.fsm = encode .txLoad → s.noReset (frameCycles s.cfg s.frame + 1) →
    s.irOut = false ∧
    (∀ k < 14, ∀ j < bitCycles s.cfg (s.frame.getLsbD (15 - k)),
      ∃ t, Reaches (1 + bitStart s.cfg s.frame k + j) s t ∧ t.fsm = encode .txSeg ∧ t.bitcnt.toNat = k ∧
        t.irOut = bitWave s.cfg (s.frame.getLsbD (15 - k)) j) ∧
    bitStart s.cfg s.frame 14 = frameCycles s.cfg s.frame ∧
    ∃ t, Reaches (frameCycles s.cfg s.frame + 1) s t ∧ t.fsm = encode .txEnd ∧ t.irOut = false

/-- 43_retransmit.md, number of frames per press: frames start exactly `D(f) + 3 + INTERFRAME` cycles apart and are
the same frame with the same toggle, for as long as DECIDE finds no latched release or a column still asserted; at
the first DECIDE that finds a latched release and no column, the press cycle ends and the toggle flips. -/
def Obligations.RetransmissionSpacing : Prop :=
  ∀ (s t : State), s.cfg.wf = true → s.fsm = encode .txLoad → Reaches (frameCycles s.cfg s.frame + 2) s t →
    s.noReset (frameCycles s.cfg s.frame + 3 + s.cfg.interframe) →
    (t.edgeLatch = false ∨ t.colIn ≠ 0 →
      ∃ u, Reaches (frameCycles s.cfg s.frame + 3 + s.cfg.interframe) s u ∧ u.fsm = encode .txLoad ∧
        u.frame = s.frame ∧ u.toggle = s.toggle ∧ u.heldDown = s.heldDown ∧
        opTrace (frameCycles s.cfg s.frame + 3 + s.cfg.interframe) s = frameOps s.cfg s.frame ++ retxOps s.cfg) ∧
    (t.edgeLatch = true → t.colIn = 0 →
      ∃ u, Reaches (frameCycles s.cfg s.frame + 3) s u ∧ u.fsm = encode .idle ∧ u.frame = s.frame ∧
        u.toggle = !s.toggle ∧ u.heldDown = false)

/-- 40_scan.md to 42_transmit.md joined (70_reset_and_hazards.md section 4, "edge latch to first TX_SEG"): when the
sweep of a waking block gathers the code of key i, the block sends that key's frame, packed with the selector of the
ENCODE cycle and the toggle of the wake, from cycle `DEBOUNCE + 6*ROW_SETTLE + 11` after the wake on. -/
def Obligations.PressSendsItsFrame : Prop :=
  ∀ (s : State) (i n : Nat) (hi : i < 24), s.Inv → s.fsm = encode .idle → s.edgeLatch = true →
    n = s.cfg.debounce + 6 * s.cfg.rowSettle + 11 → s.noReset n →
    sweepOr 0 s.sweepSamples = s.cfg.keyTable[i] → (∃ c ∈ s.sweepSamples, c ≠ 0) →
    ∃ t, Reaches n s t ∧ t.fsm = encode .txSeg ∧ t.keyIdx.toNat = i ∧ t.heldDown = true ∧ t.toggle = s.toggle ∧
      t.bitcnt = 0 ∧ t.half = false ∧ t.shreg = t.frame ∧
      t.frame = frameOf s.cfg s.cfg.funcTable[i] (s.inputAt (n - 2)).sel s.toggle

/-- 40_scan.md and 41_resolve_encode.md: a sweep that gathers no code of the table returns the block to IDLE with no
frame packed and the toggle kept, one cycle after RESOLVE starts. -/
def Obligations.UnknownCodeSendsNothing : Prop :=
  ∀ (s : State) (n : Nat), s.Inv → s.fsm = encode .idle → s.edgeLatch = true →
    n = s.cfg.debounce + 6 * (s.cfg.rowSettle + 1) + 3 → s.noReset n →
    (sweepOr 0 s.sweepSamples = 0 ∨ ∀ (i : Nat) (hi : i < 24), sweepOr 0 s.sweepSamples ≠ s.cfg.keyTable[i]) →
    ∃ t, Reaches n s t ∧ t.fsm = encode .idle ∧ t.frame = s.frame ∧ t.toggle = s.toggle ∧ t.heldDown = false ∧
      t.err ≠ 0b00 ∧ t.edgeEn = true ∧ t.edgePol = .rise ∧
      .txSeg ∉ opTrace n s

/-- 43_retransmit.md, number of frames per press: a release before ENCODE is done (here: columns that read 0 from the
ENCODE cycle on, whether the release has latched already or not) makes frame 1 the only frame; the whole trace to
IDLE is ENCODE, one FRAME and one DECIDE, and the toggle flips. -/
def Obligations.EarlyReleaseSendsOneFrame : Prop :=
  ∀ (s : State) (payload : Byte) (f : FrameWord) (n : Nat), s.Inv → s.fsm = encode .encode →
    memRead s.cfg.funcTable s.keyIdx.toNat = some payload → f = frameOf s.cfg payload s.selIn s.toggle →
    n = frameCycles s.cfg f + 4 → s.noReset n → (∀ k < n, s.colAt k = 0) →
    opTrace n s = .encode :: frameOps s.cfg f ++ [.decideTx] ∧
    ∃ t, Reaches n s t ∧ t.fsm = encode .idle ∧ t.frame = f ∧ t.toggle = !s.toggle ∧ t.heldDown = false

/-- 70_reset_and_hazards.md section 3, "no release after the key's sample is missed": in the transmit loop, columns
that read 0 from now on end the press cycle within one inter-frame wait and one frame more, and the toggle has then
flipped once. -/
def Obligations.ReleaseEndsPressCycle : Prop :=
  ∀ (s : State) (b : Nat), s.Inv → s.heldDown = true → b = frameCycles s.cfg s.frame + s.cfg.interframe + 4 →
    s.noReset b → (∀ k < b, s.colAt k = 0) →
    ∃ n ≤ b, ∃ t, Reaches n s t ∧ t.fsm = encode .idle ∧ t.toggle = !s.toggle ∧ t.heldDown = false ∧
      t.frame = s.frame ∧ ∀ m < n, ∀ u, Reaches m s u → u.toggle = s.toggle

/-- 70_reset_and_hazards.md section 3, key held through reset: the key latches in the first cycle after reset and is
taken as a press with toggle 0 in the next. -/
def Obligations.KeyHeldThroughReset : Prop :=
  ∀ (c : Config) (l : List Input) (n : Nat), c.wf = true → (State.resetWith c l n).noReset 2 →
    (State.resetWith c l n).colIn ≠ 0 →
    ∃ t u, Reaches 1 (State.resetWith c l n) t ∧ t.edgeLatch = true ∧ t.edgeEn = false ∧ t.fsm = encode .idle ∧
      Reaches 2 (State.resetWith c l n) u ∧ u.fsm = encode .debounce ∧ u.tmr = c.debounce ∧ u.toggle = false ∧
      u.edgeLatch = false
end

