-- ==== Sys2Proof/Laws/State.lean ====
section
/-! SUPPORT. One lemma for each field of each update of a state: what the update leaves in that field. -/
namespace Sys2Proof.Machine
namespace State

/-! ### `advance` -/

@[simp] theorem advance_cfg (s : State) : s.advance.cfg = s.cfg := rfl
@[simp] theorem advance_fsm (s : State) : s.advance.fsm = s.fsm := rfl
@[simp] theorem advance_row (s : State) : s.advance.row = s.row := rfl
@[simp] theorem advance_tmr (s : State) : s.advance.tmr = s.tmr := rfl
@[simp] theorem advance_raw (s : State) : s.advance.raw = s.raw := rfl
@[simp] theorem advance_keyIdx (s : State) : s.advance.keyIdx = s.keyIdx := rfl
@[simp] theorem advance_errNokey (s : State) : s.advance.errNokey = s.errNokey := rfl
@[simp] theorem advance_errNomatch (s : State) : s.advance.errNomatch = s.errNomatch := rfl
@[simp] theorem advance_heldDown (s : State) : s.advance.heldDown = s.heldDown := rfl
@[simp] theorem advance_toggle (s : State) : s.advance.toggle = s.toggle := rfl
@[simp] theorem advance_frame (s : State) : s.advance.frame = s.frame := rfl
@[simp] theorem advance_shreg (s : State) : s.advance.shreg = s.shreg := rfl
@[simp] theorem advance_bitcnt (s : State) : s.advance.bitcnt = s.bitcnt := rfl
@[simp] theorem advance_half (s : State) : s.advance.half = s.half := rfl
@[simp] theorem advance_segOn (s : State) : s.advance.segOn = s.segOn := rfl
@[simp] theorem advance_carPhase (s : State) : s.advance.carPhase = s.carPhase := rfl
@[simp] theorem advance_edgeEn (s : State) : s.advance.edgeEn = s.edgeEn := rfl
@[simp] theorem advance_edgePol (s : State) : s.advance.edgePol = s.edgePol := rfl
@[simp] theorem advance_edgeLatch (s : State) : s.advance.edgeLatch = s.edgeLatch := rfl
@[simp] theorem advance_colPrev (s : State) : s.advance.colPrev = s.colPrev := rfl
@[simp] theorem advance_stim (s : State) : s.advance.stim = s.stim.tail := rfl
@[simp] theorem advance_cycle (s : State) : s.advance.cycle = s.cycle + 1 := rfl

/-! ### `goto` -/

@[simp] theorem goto_cfg (i : Instr) (s : State) : (s.goto i).cfg = s.cfg := rfl
@[simp] theorem goto_fsm (i : Instr) (s : State) : (s.goto i).fsm = encode i := rfl
@[simp] theorem goto_row (i : Instr) (s : State) : (s.goto i).row = s.row := rfl
@[simp] theorem goto_tmr (i : Instr) (s : State) : (s.goto i).tmr = s.tmr := rfl
@[simp] theorem goto_raw (i : Instr) (s : State) : (s.goto i).raw = s.raw := rfl
@[simp] theorem goto_keyIdx (i : Instr) (s : State) : (s.goto i).keyIdx = s.keyIdx := rfl
@[simp] theorem goto_errNokey (i : Instr) (s : State) : (s.goto i).errNokey = s.errNokey := rfl
@[simp] theorem goto_errNomatch (i : Instr) (s : State) : (s.goto i).errNomatch = s.errNomatch := rfl
@[simp] theorem goto_heldDown (i : Instr) (s : State) : (s.goto i).heldDown = s.heldDown := rfl
@[simp] theorem goto_toggle (i : Instr) (s : State) : (s.goto i).toggle = s.toggle := rfl
@[simp] theorem goto_frame (i : Instr) (s : State) : (s.goto i).frame = s.frame := rfl
@[simp] theorem goto_shreg (i : Instr) (s : State) : (s.goto i).shreg = s.shreg := rfl
@[simp] theorem goto_bitcnt (i : Instr) (s : State) : (s.goto i).bitcnt = s.bitcnt := rfl
@[simp] theorem goto_half (i : Instr) (s : State) : (s.goto i).half = s.half := rfl
@[simp] theorem goto_segOn (i : Instr) (s : State) : (s.goto i).segOn = s.segOn := rfl
@[simp] theorem goto_carPhase (i : Instr) (s : State) : (s.goto i).carPhase = s.carPhase := rfl
@[simp] theorem goto_edgeEn (i : Instr) (s : State) : (s.goto i).edgeEn = s.edgeEn := rfl
@[simp] theorem goto_edgePol (i : Instr) (s : State) : (s.goto i).edgePol = s.edgePol := rfl
@[simp] theorem goto_edgeLatch (i : Instr) (s : State) : (s.goto i).edgeLatch = s.edgeLatch := rfl
@[simp] theorem goto_colPrev (i : Instr) (s : State) : (s.goto i).colPrev = s.colPrev := rfl
@[simp] theorem goto_stim (i : Instr) (s : State) : (s.goto i).stim = s.stim := rfl
@[simp] theorem goto_cycle (i : Instr) (s : State) : (s.goto i).cycle = s.cycle := rfl

/-! ### `loadTmr` -/

@[simp] theorem loadTmr_cfg (v : Nat) (s : State) : (s.loadTmr v).cfg = s.cfg := rfl
@[simp] theorem loadTmr_fsm (v : Nat) (s : State) : (s.loadTmr v).fsm = s.fsm := rfl
@[simp] theorem loadTmr_row (v : Nat) (s : State) : (s.loadTmr v).row = s.row := rfl
@[simp] theorem loadTmr_tmr (v : Nat) (s : State) : (s.loadTmr v).tmr = v := rfl
@[simp] theorem loadTmr_raw (v : Nat) (s : State) : (s.loadTmr v).raw = s.raw := rfl
@[simp] theorem loadTmr_keyIdx (v : Nat) (s : State) : (s.loadTmr v).keyIdx = s.keyIdx := rfl
@[simp] theorem loadTmr_errNokey (v : Nat) (s : State) : (s.loadTmr v).errNokey = s.errNokey := rfl
@[simp] theorem loadTmr_errNomatch (v : Nat) (s : State) : (s.loadTmr v).errNomatch = s.errNomatch := rfl
@[simp] theorem loadTmr_heldDown (v : Nat) (s : State) : (s.loadTmr v).heldDown = s.heldDown := rfl
@[simp] theorem loadTmr_toggle (v : Nat) (s : State) : (s.loadTmr v).toggle = s.toggle := rfl
@[simp] theorem loadTmr_frame (v : Nat) (s : State) : (s.loadTmr v).frame = s.frame := rfl
@[simp] theorem loadTmr_shreg (v : Nat) (s : State) : (s.loadTmr v).shreg = s.shreg := rfl
@[simp] theorem loadTmr_bitcnt (v : Nat) (s : State) : (s.loadTmr v).bitcnt = s.bitcnt := rfl
@[simp] theorem loadTmr_half (v : Nat) (s : State) : (s.loadTmr v).half = s.half := rfl
@[simp] theorem loadTmr_segOn (v : Nat) (s : State) : (s.loadTmr v).segOn = s.segOn := rfl
@[simp] theorem loadTmr_carPhase (v : Nat) (s : State) : (s.loadTmr v).carPhase = s.carPhase := rfl
@[simp] theorem loadTmr_edgeEn (v : Nat) (s : State) : (s.loadTmr v).edgeEn = s.edgeEn := rfl
@[simp] theorem loadTmr_edgePol (v : Nat) (s : State) : (s.loadTmr v).edgePol = s.edgePol := rfl
@[simp] theorem loadTmr_edgeLatch (v : Nat) (s : State) : (s.loadTmr v).edgeLatch = s.edgeLatch := rfl
@[simp] theorem loadTmr_colPrev (v : Nat) (s : State) : (s.loadTmr v).colPrev = s.colPrev := rfl
@[simp] theorem loadTmr_stim (v : Nat) (s : State) : (s.loadTmr v).stim = s.stim := rfl
@[simp] theorem loadTmr_cycle (v : Nat) (s : State) : (s.loadTmr v).cycle = s.cycle := rfl

/-! ### `edgeUpdate` -/

@[simp] theorem edgeUpdate_cfg (s : State) : s.edgeUpdate.cfg = s.cfg := rfl
@[simp] theorem edgeUpdate_fsm (s : State) : s.edgeUpdate.fsm = s.fsm := rfl
@[simp] theorem edgeUpdate_row (s : State) : s.edgeUpdate.row = s.row := rfl
@[simp] theorem edgeUpdate_tmr (s : State) : s.edgeUpdate.tmr = s.tmr := rfl
@[simp] theorem edgeUpdate_raw (s : State) : s.edgeUpdate.raw = s.raw := rfl
@[simp] theorem edgeUpdate_keyIdx (s : State) : s.edgeUpdate.keyIdx = s.keyIdx := rfl
@[simp] theorem edgeUpdate_errNokey (s : State) : s.edgeUpdate.errNokey = s.errNokey := rfl
@[simp] theorem edgeUpdate_errNomatch (s : State) : s.edgeUpdate.errNomatch = s.errNomatch := rfl
@[simp] theorem edgeUpdate_heldDown (s : State) : s.edgeUpdate.heldDown = s.heldDown := rfl
@[simp] theorem edgeUpdate_toggle (s : State) : s.edgeUpdate.toggle = s.toggle := rfl
@[simp] theorem edgeUpdate_frame (s : State) : s.edgeUpdate.frame = s.frame := rfl
@[simp] theorem edgeUpdate_shreg (s : State) : s.edgeUpdate.shreg = s.shreg := rfl
@[simp] theorem edgeUpdate_bitcnt (s : State) : s.edgeUpdate.bitcnt = s.bitcnt := rfl
@[simp] theorem edgeUpdate_half (s : State) : s.edgeUpdate.half = s.half := rfl
@[simp] theorem edgeUpdate_segOn (s : State) : s.edgeUpdate.segOn = s.segOn := rfl
@[simp] theorem edgeUpdate_carPhase (s : State) : s.edgeUpdate.carPhase = s.carPhase := rfl
@[simp] theorem edgeUpdate_edgeEn (s : State) : s.edgeUpdate.edgeEn = (if s.edgeFires then false else s.edgeEn) := rfl
@[simp] theorem edgeUpdate_edgePol (s : State) : s.edgeUpdate.edgePol = s.edgePol := rfl
@[simp] theorem edgeUpdate_edgeLatch (s : State) : s.edgeUpdate.edgeLatch = (if s.edgeFires then true else s.edgeLatch) := rfl
@[simp] theorem edgeUpdate_colPrev (s : State) : s.edgeUpdate.colPrev = s.colIn := rfl
@[simp] theorem edgeUpdate_stim (s : State) : s.edgeUpdate.stim = s.stim := rfl
@[simp] theorem edgeUpdate_cycle (s : State) : s.edgeUpdate.cycle = s.cycle := rfl

/-! ### `armPress` -/

@[simp] theorem armPress_cfg (c : Cols) (s : State) : (s.armPress c).cfg = s.cfg := rfl
@[simp] theorem armPress_fsm (c : Cols) (s : State) : (s.armPress c).fsm = s.fsm := rfl
@[simp] theorem armPress_row (c : Cols) (s : State) : (s.armPress c).row = s.row := rfl
@[simp] theorem armPress_tmr (c : Cols) (s : State) : (s.armPress c).tmr = s.tmr := rfl
@[simp] theorem armPress_raw (c : Cols) (s : State) : (s.armPress c).raw = s.raw := rfl
@[simp] theorem armPress_keyIdx (c : Cols) (s : State) : (s.armPress c).keyIdx = s.keyIdx := rfl
@[simp] theorem armPress_errNokey (c : Cols) (s : State) : (s.armPress c).errNokey = s.errNokey := rfl
@[simp] theorem armPress_errNomatch (c : Cols) (s : State) : (s.armPress c).errNomatch = s.errNomatch := rfl
@[simp] theorem armPress_heldDown (c : Cols) (s : State) : (s.armPress c).heldDown = s.heldDown := rfl
@[simp] theorem armPress_toggle (c : Cols) (s : State) : (s.armPress c).toggle = s.toggle := rfl
@[simp] theorem armPress_frame (c : Cols) (s : State) : (s.armPress c).frame = s.frame := rfl
@[simp] theorem armPress_shreg (c : Cols) (s : State) : (s.armPress c).shreg = s.shreg := rfl
@[simp] theorem armPress_bitcnt (c : Cols) (s : State) : (s.armPress c).bitcnt = s.bitcnt := rfl
@[simp] theorem armPress_half (c : Cols) (s : State) : (s.armPress c).half = s.half := rfl
@[simp] theorem armPress_segOn (c : Cols) (s : State) : (s.armPress c).segOn = s.segOn := rfl
@[simp] theorem armPress_carPhase (c : Cols) (s : State) : (s.armPress c).carPhase = s.carPhase := rfl
@[simp] theorem armPress_edgeEn (c : Cols) (s : State) : (s.armPress c).edgeEn = true := rfl
@[simp] theorem armPress_edgePol (c : Cols) (s : State) : (s.armPress c).edgePol = .rise := rfl
@[simp] theorem armPress_edgeLatch (c : Cols) (s : State) : (s.armPress c).edgeLatch = false := rfl
@[simp] theorem armPress_colPrev (c : Cols) (s : State) : (s.armPress c).colPrev = c := rfl
@[simp] theorem armPress_stim (c : Cols) (s : State) : (s.armPress c).stim = s.stim := rfl
@[simp] theorem armPress_cycle (c : Cols) (s : State) : (s.armPress c).cycle = s.cycle := rfl

/-! ### `armRelease` -/

@[simp] theorem armRelease_cfg (c : Cols) (s : State) : (s.armRelease c).cfg = s.cfg := rfl
@[simp] theorem armRelease_fsm (c : Cols) (s : State) : (s.armRelease c).fsm = s.fsm := rfl
@[simp] theorem armRelease_row (c : Cols) (s : State) : (s.armRelease c).row = s.row := rfl
@[simp] theorem armRelease_tmr (c : Cols) (s : State) : (s.armRelease c).tmr = s.tmr := rfl
@[simp] theorem armRelease_raw (c : Cols) (s : State) : (s.armRelease c).raw = s.raw := rfl
@[simp] theorem armRelease_keyIdx (c : Cols) (s : State) : (s.armRelease c).keyIdx = s.keyIdx := rfl
@[simp] theorem armRelease_errNokey (c : Cols) (s : State) : (s.armRelease c).errNokey = s.errNokey := rfl
@[simp] theorem armRelease_errNomatch (c : Cols) (s : State) : (s.armRelease c).errNomatch = s.errNomatch := rfl
@[simp] theorem armRelease_heldDown (c : Cols) (s : State) : (s.armRelease c).heldDown = s.heldDown := rfl
@[simp] theorem armRelease_toggle (c : Cols) (s : State) : (s.armRelease c).toggle = s.toggle := rfl
@[simp] theorem armRelease_frame (c : Cols) (s : State) : (s.armRelease c).frame = s.frame := rfl
@[simp] theorem armRelease_shreg (c : Cols) (s : State) : (s.armRelease c).shreg = s.shreg := rfl
@[simp] theorem armRelease_bitcnt (c : Cols) (s : State) : (s.armRelease c).bitcnt = s.bitcnt := rfl
@[simp] theorem armRelease_half (c : Cols) (s : State) : (s.armRelease c).half = s.half := rfl
@[simp] theorem armRelease_segOn (c : Cols) (s : State) : (s.armRelease c).segOn = s.segOn := rfl
@[simp] theorem armRelease_carPhase (c : Cols) (s : State) : (s.armRelease c).carPhase = s.carPhase := rfl
@[simp] theorem armRelease_edgeEn (c : Cols) (s : State) : (s.armRelease c).edgeEn = true := rfl
@[simp] theorem armRelease_edgePol (c : Cols) (s : State) : (s.armRelease c).edgePol = .fall := rfl
@[simp] theorem armRelease_edgeLatch (c : Cols) (s : State) : (s.armRelease c).edgeLatch = false := rfl
@[simp] theorem armRelease_colPrev (c : Cols) (s : State) : (s.armRelease c).colPrev = c := rfl
@[simp] theorem armRelease_stim (c : Cols) (s : State) : (s.armRelease c).stim = s.stim := rfl
@[simp] theorem armRelease_cycle (c : Cols) (s : State) : (s.armRelease c).cycle = s.cycle := rfl

/-! ### `errorExit` -/

@[simp] theorem errorExit_cfg (c : Cols) (s : State) : (s.errorExit c).cfg = s.cfg := rfl
@[simp] theorem errorExit_fsm (c : Cols) (s : State) : (s.errorExit c).fsm = encode .idle := rfl
@[simp] theorem errorExit_row (c : Cols) (s : State) : (s.errorExit c).row = s.row := rfl
@[simp] theorem errorExit_tmr (c : Cols) (s : State) : (s.errorExit c).tmr = s.tmr := rfl
@[simp] theorem errorExit_raw (c : Cols) (s : State) : (s.errorExit c).raw = s.raw := rfl
@[simp] theorem errorExit_keyIdx (c : Cols) (s : State) : (s.errorExit c).keyIdx = s.keyIdx := rfl
@[simp] theorem errorExit_errNokey (c : Cols) (s : State) : (s.errorExit c).errNokey = s.errNokey := rfl
@[simp] theorem errorExit_errNomatch (c : Cols) (s : State) : (s.errorExit c).errNomatch = s.errNomatch := rfl
@[simp] theorem errorExit_heldDown (c : Cols) (s : State) : (s.errorExit c).heldDown = s.heldDown := rfl
@[simp] theorem errorExit_toggle (c : Cols) (s : State) : (s.errorExit c).toggle = s.toggle := rfl
@[simp] theorem errorExit_frame (c : Cols) (s : State) : (s.errorExit c).frame = s.frame := rfl
@[simp] theorem errorExit_shreg (c : Cols) (s : State) : (s.errorExit c).shreg = s.shreg := rfl
@[simp] theorem errorExit_bitcnt (c : Cols) (s : State) : (s.errorExit c).bitcnt = s.bitcnt := rfl
@[simp] theorem errorExit_half (c : Cols) (s : State) : (s.errorExit c).half = s.half := rfl
@[simp] theorem errorExit_segOn (c : Cols) (s : State) : (s.errorExit c).segOn = s.segOn := rfl
@[simp] theorem errorExit_carPhase (c : Cols) (s : State) : (s.errorExit c).carPhase = s.carPhase := rfl
@[simp] theorem errorExit_edgeEn (c : Cols) (s : State) : (s.errorExit c).edgeEn = true := rfl
@[simp] theorem errorExit_edgePol (c : Cols) (s : State) : (s.errorExit c).edgePol = .rise := rfl
@[simp] theorem errorExit_edgeLatch (c : Cols) (s : State) : (s.errorExit c).edgeLatch = false := rfl
@[simp] theorem errorExit_colPrev (c : Cols) (s : State) : (s.errorExit c).colPrev = c := rfl
@[simp] theorem errorExit_stim (c : Cols) (s : State) : (s.errorExit c).stim = s.stim := rfl
@[simp] theorem errorExit_cycle (c : Cols) (s : State) : (s.errorExit c).cycle = s.cycle := rfl

/-! ### `clearErrors` -/

@[simp] theorem clearErrors_cfg (s : State) : s.clearErrors.cfg = s.cfg := rfl
@[simp] theorem clearErrors_fsm (s : State) : s.clearErrors.fsm = s.fsm := rfl
@[simp] theorem clearErrors_row (s : State) : s.clearErrors.row = s.row := rfl
@[simp] theorem clearErrors_tmr (s : State) : s.clearErrors.tmr = s.tmr := rfl
@[simp] theorem clearErrors_raw (s : State) : s.clearErrors.raw = s.raw := rfl
@[simp] theorem clearErrors_keyIdx (s : State) : s.clearErrors.keyIdx = s.keyIdx := rfl
@[simp] theorem clearErrors_errNokey (s : State) : s.clearErrors.errNokey = false := rfl
@[simp] theorem clearErrors_errNomatch (s : State) : s.clearErrors.errNomatch = false := rfl
@[simp] theorem clearErrors_heldDown (s : State) : s.clearErrors.heldDown = s.heldDown := rfl
@[simp] theorem clearErrors_toggle (s : State) : s.clearErrors.toggle = s.toggle := rfl
@[simp] theorem clearErrors_frame (s : State) : s.clearErrors.frame = s.frame := rfl
@[simp] theorem clearErrors_shreg (s : State) : s.clearErrors.shreg = s.shreg := rfl
@[simp] theorem clearErrors_bitcnt (s : State) : s.clearErrors.bitcnt = s.bitcnt := rfl
@[simp] theorem clearErrors_half (s : State) : s.clearErrors.half = s.half := rfl
@[simp] theorem clearErrors_segOn (s : State) : s.clearErrors.segOn = s.segOn := rfl
@[simp] theorem clearErrors_carPhase (s : State) : s.clearErrors.carPhase = s.carPhase := rfl
@[simp] theorem clearErrors_edgeEn (s : State) : s.clearErrors.edgeEn = s.edgeEn := rfl
@[simp] theorem clearErrors_edgePol (s : State) : s.clearErrors.edgePol = s.edgePol := rfl
@[simp] theorem clearErrors_edgeLatch (s : State) : s.clearErrors.edgeLatch = s.edgeLatch := rfl
@[simp] theorem clearErrors_colPrev (s : State) : s.clearErrors.colPrev = s.colPrev := rfl
@[simp] theorem clearErrors_stim (s : State) : s.clearErrors.stim = s.stim := rfl
@[simp] theorem clearErrors_cycle (s : State) : s.clearErrors.cycle = s.cycle := rfl

/-! ### `raiseNoKeyIf` -/

@[simp] theorem raiseNoKeyIf_cfg (c : Bool) (s : State) : (s.raiseNoKeyIf c).cfg = s.cfg := rfl
@[simp] theorem raiseNoKeyIf_fsm (c : Bool) (s : State) : (s.raiseNoKeyIf c).fsm = s.fsm := rfl
@[simp] theorem raiseNoKeyIf_row (c : Bool) (s : State) : (s.raiseNoKeyIf c).row = s.row := rfl
@[simp] theorem raiseNoKeyIf_tmr (c : Bool) (s : State) : (s.raiseNoKeyIf c).tmr = s.tmr := rfl
@[simp] theorem raiseNoKeyIf_raw (c : Bool) (s : State) : (s.raiseNoKeyIf c).raw = s.raw := rfl
@[simp] theorem raiseNoKeyIf_keyIdx (c : Bool) (s : State) : (s.raiseNoKeyIf c).keyIdx = s.keyIdx := rfl
@[simp] theorem raiseNoKeyIf_errNokey (c : Bool) (s : State) : (s.raiseNoKeyIf c).errNokey = (if c then true else s.errNokey) := rfl
@[simp] theorem raiseNoKeyIf_errNomatch (c : Bool) (s : State) : (s.raiseNoKeyIf c).errNomatch = s.errNomatch := rfl
@[simp] theorem raiseNoKeyIf_heldDown (c : Bool) (s : State) : (s.raiseNoKeyIf c).heldDown = s.heldDown := rfl
@[simp] theorem raiseNoKeyIf_toggle (c : Bool) (s : State) : (s.raiseNoKeyIf c).toggle = s.toggle := rfl
@[simp] theorem raiseNoKeyIf_frame (c : Bool) (s : State) : (s.raiseNoKeyIf c).frame = s.frame := rfl
@[simp] theorem raiseNoKeyIf_shreg (c : Bool) (s : State) : (s.raiseNoKeyIf c).shreg = s.shreg := rfl
@[simp] theorem raiseNoKeyIf_bitcnt (c : Bool) (s : State) : (s.raiseNoKeyIf c).bitcnt = s.bitcnt := rfl
@[simp] theorem raiseNoKeyIf_half (c : Bool) (s : State) : (s.raiseNoKeyIf c).half = s.half := rfl
@[simp] theorem raiseNoKeyIf_segOn (c : Bool) (s : State) : (s.raiseNoKeyIf c).segOn = s.segOn := rfl
@[simp] theorem raiseNoKeyIf_carPhase (c : Bool) (s : State) : (s.raiseNoKeyIf c).carPhase = s.carPhase := rfl
@[simp] theorem raiseNoKeyIf_edgeEn (c : Bool) (s : State) : (s.raiseNoKeyIf c).edgeEn = s.edgeEn := rfl
@[simp] theorem raiseNoKeyIf_edgePol (c : Bool) (s : State) : (s.raiseNoKeyIf c).edgePol = s.edgePol := rfl
@[simp] theorem raiseNoKeyIf_edgeLatch (c : Bool) (s : State) : (s.raiseNoKeyIf c).edgeLatch = s.edgeLatch := rfl
@[simp] theorem raiseNoKeyIf_colPrev (c : Bool) (s : State) : (s.raiseNoKeyIf c).colPrev = s.colPrev := rfl
@[simp] theorem raiseNoKeyIf_stim (c : Bool) (s : State) : (s.raiseNoKeyIf c).stim = s.stim := rfl
@[simp] theorem raiseNoKeyIf_cycle (c : Bool) (s : State) : (s.raiseNoKeyIf c).cycle = s.cycle := rfl

/-! ### `raiseNoMatch` -/

@[simp] theorem raiseNoMatch_cfg (s : State) : s.raiseNoMatch.cfg = s.cfg := rfl
@[simp] theorem raiseNoMatch_fsm (s : State) : s.raiseNoMatch.fsm = s.fsm := rfl
@[simp] theorem raiseNoMatch_row (s : State) : s.raiseNoMatch.row = s.row := rfl
@[simp] theorem raiseNoMatch_tmr (s : State) : s.raiseNoMatch.tmr = s.tmr := rfl
@[simp] theorem raiseNoMatch_raw (s : State) : s.raiseNoMatch.raw = s.raw := rfl
@[simp] theorem raiseNoMatch_keyIdx (s : State) : s.raiseNoMatch.keyIdx = keySentinel := rfl
@[simp] theorem raiseNoMatch_errNokey (s : State) : s.raiseNoMatch.errNokey = s.errNokey := rfl
@[simp] theorem raiseNoMatch_errNomatch (s : State) : s.raiseNoMatch.errNomatch = true := rfl
@[simp] theorem raiseNoMatch_heldDown (s : State) : s.raiseNoMatch.heldDown = s.heldDown := rfl
@[simp] theorem raiseNoMatch_toggle (s : State) : s.raiseNoMatch.toggle = s.toggle := rfl
@[simp] theorem raiseNoMatch_frame (s : State) : s.raiseNoMatch.frame = s.frame := rfl
@[simp] theorem raiseNoMatch_shreg (s : State) : s.raiseNoMatch.shreg = s.shreg := rfl
@[simp] theorem raiseNoMatch_bitcnt (s : State) : s.raiseNoMatch.bitcnt = s.bitcnt := rfl
@[simp] theorem raiseNoMatch_half (s : State) : s.raiseNoMatch.half = s.half := rfl
@[simp] theorem raiseNoMatch_segOn (s : State) : s.raiseNoMatch.segOn = s.segOn := rfl
@[simp] theorem raiseNoMatch_carPhase (s : State) : s.raiseNoMatch.carPhase = s.carPhase := rfl
@[simp] theorem raiseNoMatch_edgeEn (s : State) : s.raiseNoMatch.edgeEn = s.edgeEn := rfl
@[simp] theorem raiseNoMatch_edgePol (s : State) : s.raiseNoMatch.edgePol = s.edgePol := rfl
@[simp] theorem raiseNoMatch_edgeLatch (s : State) : s.raiseNoMatch.edgeLatch = s.edgeLatch := rfl
@[simp] theorem raiseNoMatch_colPrev (s : State) : s.raiseNoMatch.colPrev = s.colPrev := rfl
@[simp] theorem raiseNoMatch_stim (s : State) : s.raiseNoMatch.stim = s.stim := rfl
@[simp] theorem raiseNoMatch_cycle (s : State) : s.raiseNoMatch.cycle = s.cycle := rfl

/-! ### `setHeld` -/

@[simp] theorem setHeld_cfg (v : Bool) (s : State) : (s.setHeld v).cfg = s.cfg := rfl
@[simp] theorem setHeld_fsm (v : Bool) (s : State) : (s.setHeld v).fsm = s.fsm := rfl
@[simp] theorem setHeld_row (v : Bool) (s : State) : (s.setHeld v).row = s.row := rfl
@[simp] theorem setHeld_tmr (v : Bool) (s : State) : (s.setHeld v).tmr = s.tmr := rfl
@[simp] theorem setHeld_raw (v : Bool) (s : State) : (s.setHeld v).raw = s.raw := rfl
@[simp] theorem setHeld_keyIdx (v : Bool) (s : State) : (s.setHeld v).keyIdx = s.keyIdx := rfl
@[simp] theorem setHeld_errNokey (v : Bool) (s : State) : (s.setHeld v).errNokey = s.errNokey := rfl
@[simp] theorem setHeld_errNomatch (v : Bool) (s : State) : (s.setHeld v).errNomatch = s.errNomatch := rfl
@[simp] theorem setHeld_heldDown (v : Bool) (s : State) : (s.setHeld v).heldDown = v := rfl
@[simp] theorem setHeld_toggle (v : Bool) (s : State) : (s.setHeld v).toggle = s.toggle := rfl
@[simp] theorem setHeld_frame (v : Bool) (s : State) : (s.setHeld v).frame = s.frame := rfl
@[simp] theorem setHeld_shreg (v : Bool) (s : State) : (s.setHeld v).shreg = s.shreg := rfl
@[simp] theorem setHeld_bitcnt (v : Bool) (s : State) : (s.setHeld v).bitcnt = s.bitcnt := rfl
@[simp] theorem setHeld_half (v : Bool) (s : State) : (s.setHeld v).half = s.half := rfl
@[simp] theorem setHeld_segOn (v : Bool) (s : State) : (s.setHeld v).segOn = s.segOn := rfl
@[simp] theorem setHeld_carPhase (v : Bool) (s : State) : (s.setHeld v).carPhase = s.carPhase := rfl
@[simp] theorem setHeld_edgeEn (v : Bool) (s : State) : (s.setHeld v).edgeEn = s.edgeEn := rfl
@[simp] theorem setHeld_edgePol (v : Bool) (s : State) : (s.setHeld v).edgePol = s.edgePol := rfl
@[simp] theorem setHeld_edgeLatch (v : Bool) (s : State) : (s.setHeld v).edgeLatch = s.edgeLatch := rfl
@[simp] theorem setHeld_colPrev (v : Bool) (s : State) : (s.setHeld v).colPrev = s.colPrev := rfl
@[simp] theorem setHeld_stim (v : Bool) (s : State) : (s.setHeld v).stim = s.stim := rfl
@[simp] theorem setHeld_cycle (v : Bool) (s : State) : (s.setHeld v).cycle = s.cycle := rfl

/-! ### `flipToggle` -/

@[simp] theorem flipToggle_cfg (s : State) : s.flipToggle.cfg = s.cfg := rfl
@[simp] theorem flipToggle_fsm (s : State) : s.flipToggle.fsm = s.fsm := rfl
@[simp] theorem flipToggle_row (s : State) : s.flipToggle.row = s.row := rfl
@[simp] theorem flipToggle_tmr (s : State) : s.flipToggle.tmr = s.tmr := rfl
@[simp] theorem flipToggle_raw (s : State) : s.flipToggle.raw = s.raw := rfl
@[simp] theorem flipToggle_keyIdx (s : State) : s.flipToggle.keyIdx = s.keyIdx := rfl
@[simp] theorem flipToggle_errNokey (s : State) : s.flipToggle.errNokey = s.errNokey := rfl
@[simp] theorem flipToggle_errNomatch (s : State) : s.flipToggle.errNomatch = s.errNomatch := rfl
@[simp] theorem flipToggle_heldDown (s : State) : s.flipToggle.heldDown = s.heldDown := rfl
@[simp] theorem flipToggle_toggle (s : State) : s.flipToggle.toggle = !s.toggle := rfl
@[simp] theorem flipToggle_frame (s : State) : s.flipToggle.frame = s.frame := rfl
@[simp] theorem flipToggle_shreg (s : State) : s.flipToggle.shreg = s.shreg := rfl
@[simp] theorem flipToggle_bitcnt (s : State) : s.flipToggle.bitcnt = s.bitcnt := rfl
@[simp] theorem flipToggle_half (s : State) : s.flipToggle.half = s.half := rfl
@[simp] theorem flipToggle_segOn (s : State) : s.flipToggle.segOn = s.segOn := rfl
@[simp] theorem flipToggle_carPhase (s : State) : s.flipToggle.carPhase = s.carPhase := rfl
@[simp] theorem flipToggle_edgeEn (s : State) : s.flipToggle.edgeEn = s.edgeEn := rfl
@[simp] theorem flipToggle_edgePol (s : State) : s.flipToggle.edgePol = s.edgePol := rfl
@[simp] theorem flipToggle_edgeLatch (s : State) : s.flipToggle.edgeLatch = s.edgeLatch := rfl
@[simp] theorem flipToggle_colPrev (s : State) : s.flipToggle.colPrev = s.colPrev := rfl
@[simp] theorem flipToggle_stim (s : State) : s.flipToggle.stim = s.stim := rfl
@[simp] theorem flipToggle_cycle (s : State) : s.flipToggle.cycle = s.cycle := rfl

/-! ### `loadSegment` -/

@[simp] theorem loadSegment_cfg (g : Segment) (s : State) : (s.loadSegment g).cfg = s.cfg := rfl
@[simp] theorem loadSegment_fsm (g : Segment) (s : State) : (s.loadSegment g).fsm = s.fsm := rfl
@[simp] theorem loadSegment_row (g : Segment) (s : State) : (s.loadSegment g).row = s.row := rfl
@[simp] theorem loadSegment_tmr (g : Segment) (s : State) : (s.loadSegment g).tmr = g.len := rfl
@[simp] theorem loadSegment_raw (g : Segment) (s : State) : (s.loadSegment g).raw = s.raw := rfl
@[simp] theorem loadSegment_keyIdx (g : Segment) (s : State) : (s.loadSegment g).keyIdx = s.keyIdx := rfl
@[simp] theorem loadSegment_errNokey (g : Segment) (s : State) : (s.loadSegment g).errNokey = s.errNokey := rfl
@[simp] theorem loadSegment_errNomatch (g : Segment) (s : State) : (s.loadSegment g).errNomatch = s.errNomatch := rfl
@[simp] theorem loadSegment_heldDown (g : Segment) (s : State) : (s.loadSegment g).heldDown = s.heldDown := rfl
@[simp] theorem loadSegment_toggle (g : Segment) (s : State) : (s.loadSegment g).toggle = s.toggle := rfl
@[simp] theorem loadSegment_frame (g : Segment) (s : State) : (s.loadSegment g).frame = s.frame := rfl
@[simp] theorem loadSegment_shreg (g : Segment) (s : State) : (s.loadSegment g).shreg = s.shreg := rfl
@[simp] theorem loadSegment_bitcnt (g : Segment) (s : State) : (s.loadSegment g).bitcnt = s.bitcnt := rfl
@[simp] theorem loadSegment_half (g : Segment) (s : State) : (s.loadSegment g).half = s.half := rfl
@[simp] theorem loadSegment_segOn (g : Segment) (s : State) : (s.loadSegment g).segOn = g.on := rfl
@[simp] theorem loadSegment_carPhase (g : Segment) (s : State) : (s.loadSegment g).carPhase = 0 := rfl
@[simp] theorem loadSegment_edgeEn (g : Segment) (s : State) : (s.loadSegment g).edgeEn = s.edgeEn := rfl
@[simp] theorem loadSegment_edgePol (g : Segment) (s : State) : (s.loadSegment g).edgePol = s.edgePol := rfl
@[simp] theorem loadSegment_edgeLatch (g : Segment) (s : State) : (s.loadSegment g).edgeLatch = s.edgeLatch := rfl
@[simp] theorem loadSegment_colPrev (g : Segment) (s : State) : (s.loadSegment g).colPrev = s.colPrev := rfl
@[simp] theorem loadSegment_stim (g : Segment) (s : State) : (s.loadSegment g).stim = s.stim := rfl
@[simp] theorem loadSegment_cycle (g : Segment) (s : State) : (s.loadSegment g).cycle = s.cycle := rfl

/-! ### `retransmit` -/

@[simp] theorem retransmit_cfg (s : State) : s.retransmit.cfg = s.cfg := rfl
@[simp] theorem retransmit_fsm (s : State) : s.retransmit.fsm = encode .interframe := rfl
@[simp] theorem retransmit_row (s : State) : s.retransmit.row = s.row := rfl
@[simp] theorem retransmit_tmr (s : State) : s.retransmit.tmr = s.cfg.interframe := rfl
@[simp] theorem retransmit_raw (s : State) : s.retransmit.raw = s.raw := rfl
@[simp] theorem retransmit_keyIdx (s : State) : s.retransmit.keyIdx = s.keyIdx := rfl
@[simp] theorem retransmit_errNokey (s : State) : s.retransmit.errNokey = s.errNokey := rfl
@[simp] theorem retransmit_errNomatch (s : State) : s.retransmit.errNomatch = s.errNomatch := rfl
@[simp] theorem retransmit_heldDown (s : State) : s.retransmit.heldDown = s.heldDown := rfl
@[simp] theorem retransmit_toggle (s : State) : s.retransmit.toggle = s.toggle := rfl
@[simp] theorem retransmit_frame (s : State) : s.retransmit.frame = s.frame := rfl
@[simp] theorem retransmit_shreg (s : State) : s.retransmit.shreg = s.shreg := rfl
@[simp] theorem retransmit_bitcnt (s : State) : s.retransmit.bitcnt = s.bitcnt := rfl
@[simp] theorem retransmit_half (s : State) : s.retransmit.half = s.half := rfl
@[simp] theorem retransmit_segOn (s : State) : s.retransmit.segOn = s.segOn := rfl
@[simp] theorem retransmit_carPhase (s : State) : s.retransmit.carPhase = s.carPhase := rfl
@[simp] theorem retransmit_edgeEn (s : State) : s.retransmit.edgeEn = s.edgeEn := rfl
@[simp] theorem retransmit_edgePol (s : State) : s.retransmit.edgePol = s.edgePol := rfl
@[simp] theorem retransmit_edgeLatch (s : State) : s.retransmit.edgeLatch = s.edgeLatch := rfl
@[simp] theorem retransmit_colPrev (s : State) : s.retransmit.colPrev = s.colPrev := rfl
@[simp] theorem retransmit_stim (s : State) : s.retransmit.stim = s.stim := rfl
@[simp] theorem retransmit_cycle (s : State) : s.retransmit.cycle = s.cycle := rfl

/-! ### `endTransmit` -/

@[simp] theorem endTransmit_cfg (c : Cols) (s : State) : (s.endTransmit c).cfg = s.cfg := rfl
@[simp] theorem endTransmit_fsm (c : Cols) (s : State) : (s.endTransmit c).fsm = encode .idle := rfl
@[simp] theorem endTransmit_row (c : Cols) (s : State) : (s.endTransmit c).row = s.row := rfl
@[simp] theorem endTransmit_tmr (c : Cols) (s : State) : (s.endTransmit c).tmr = 0 := rfl
@[simp] theorem endTransmit_raw (c : Cols) (s : State) : (s.endTransmit c).raw = s.raw := rfl
@[simp] theorem endTransmit_keyIdx (c : Cols) (s : State) : (s.endTransmit c).keyIdx = s.keyIdx := rfl
@[simp] theorem endTransmit_errNokey (c : Cols) (s : State) : (s.endTransmit c).errNokey = s.errNokey := rfl
@[simp] theorem endTransmit_errNomatch (c : Cols) (s : State) : (s.endTransmit c).errNomatch = s.errNomatch := rfl
@[simp] theorem endTransmit_heldDown (c : Cols) (s : State) : (s.endTransmit c).heldDown = false := rfl
@[simp] theorem endTransmit_toggle (c : Cols) (s : State) : (s.endTransmit c).toggle = !s.toggle := rfl
@[simp] theorem endTransmit_frame (c : Cols) (s : State) : (s.endTransmit c).frame = s.frame := rfl
@[simp] theorem endTransmit_shreg (c : Cols) (s : State) : (s.endTransmit c).shreg = s.shreg := rfl
@[simp] theorem endTransmit_bitcnt (c : Cols) (s : State) : (s.endTransmit c).bitcnt = s.bitcnt := rfl
@[simp] theorem endTransmit_half (c : Cols) (s : State) : (s.endTransmit c).half = s.half := rfl
@[simp] theorem endTransmit_segOn (c : Cols) (s : State) : (s.endTransmit c).segOn = s.segOn := rfl
@[simp] theorem endTransmit_carPhase (c : Cols) (s : State) : (s.endTransmit c).carPhase = 0 := rfl
@[simp] theorem endTransmit_edgeEn (c : Cols) (s : State) : (s.endTransmit c).edgeEn = true := rfl
@[simp] theorem endTransmit_edgePol (c : Cols) (s : State) : (s.endTransmit c).edgePol = .rise := rfl
@[simp] theorem endTransmit_edgeLatch (c : Cols) (s : State) : (s.endTransmit c).edgeLatch = false := rfl
@[simp] theorem endTransmit_colPrev (c : Cols) (s : State) : (s.endTransmit c).colPrev = c := rfl
@[simp] theorem endTransmit_stim (c : Cols) (s : State) : (s.endTransmit c).stim = s.stim := rfl
@[simp] theorem endTransmit_cycle (c : Cols) (s : State) : (s.endTransmit c).cycle = s.cycle := rfl

/-! ### `resetWith` -/

@[simp] theorem resetWith_cfg (c : Config) (l : List Input) (n : Nat) : (resetWith c l n).cfg = c := rfl
@[simp] theorem resetWith_fsm (c : Config) (l : List Input) (n : Nat) : (resetWith c l n).fsm = 0#4 := rfl
@[simp] theorem resetWith_row (c : Config) (l : List Input) (n : Nat) : (resetWith c l n).row = 0 := rfl
@[simp] theorem resetWith_tmr (c : Config) (l : List Input) (n : Nat) : (resetWith c l n).tmr = 0 := rfl
@[simp] theorem resetWith_raw (c : Config) (l : List Input) (n : Nat) : (resetWith c l n).raw = 0 := rfl
@[simp] theorem resetWith_keyIdx (c : Config) (l : List Input) (n : Nat) : (resetWith c l n).keyIdx = keySentinel := rfl
@[simp] theorem resetWith_errNokey (c : Config) (l : List Input) (n : Nat) : (resetWith c l n).errNokey = false := rfl
@[simp] theorem resetWith_errNomatch (c : Config) (l : List Input) (n : Nat) : (resetWith c l n).errNomatch = false := rfl
@[simp] theorem resetWith_heldDown (c : Config) (l : List Input) (n : Nat) : (resetWith c l n).heldDown = false := rfl
@[simp] theorem resetWith_toggle (c : Config) (l : List Input) (n : Nat) : (resetWith c l n).toggle = false := rfl
@[simp] theorem resetWith_frame (c : Config) (l : List Input) (n : Nat) : (resetWith c l n).frame = 0 := rfl
@[simp] theorem resetWith_shreg (c : Config) (l : List Input) (n : Nat) : (resetWith c l n).shreg = 0 := rfl
@[simp] theorem resetWith_bitcnt (c : Config) (l : List Input) (n : Nat) : (resetWith c l n).bitcnt = 0 := rfl
@[simp] theorem resetWith_half (c : Config) (l : List Input) (n : Nat) : (resetWith c l n).half = false := rfl
@[simp] theorem resetWith_segOn (c : Config) (l : List Input) (n : Nat) : (resetWith c l n).segOn = false := rfl
@[simp] theorem resetWith_carPhase (c : Config) (l : List Input) (n : Nat) : (resetWith c l n).carPhase = 0 := rfl
@[simp] theorem resetWith_edgeEn (c : Config) (l : List Input) (n : Nat) : (resetWith c l n).edgeEn = true := rfl
@[simp] theorem resetWith_edgePol (c : Config) (l : List Input) (n : Nat) : (resetWith c l n).edgePol = .rise := rfl
@[simp] theorem resetWith_edgeLatch (c : Config) (l : List Input) (n : Nat) : (resetWith c l n).edgeLatch = false := rfl
@[simp] theorem resetWith_colPrev (c : Config) (l : List Input) (n : Nat) : (resetWith c l n).colPrev = 0 := rfl
@[simp] theorem resetWith_stim (c : Config) (l : List Input) (n : Nat) : (resetWith c l n).stim = l := rfl
@[simp] theorem resetWith_cycle (c : Config) (l : List Input) (n : Nat) : (resetWith c l n).cycle = n := rfl

end State
end Sys2Proof.Machine
end

