-- ==== Sys2Proof/Laws/Ops.lean ====
section
/-! SUPPORT. For each shared operation, once, what it can do: the wait, the inputs, the edge detector, the ROM read and
the matcher, the error exit, the end of a cycle and the step. -/
namespace Sys2Proof.Machine

/-! ## The wait (rule R91) -/

theorem wait_counts {s n e : State} (h : 1 < s.tmr) : wait s n e = n.loadTmr (s.tmr - 1) := if_pos h

theorem wait_expires {s n e : State} (h : s.tmr ≤ 1) : wait s n e = e := if_neg (by omega)

theorem wait_cases (s n e : State) :
    (1 < s.tmr ∧ wait s n e = n.loadTmr (s.tmr - 1)) ∨ (s.tmr ≤ 1 ∧ wait s n e = e) := by
  rcases Nat.lt_or_ge 1 s.tmr with h | h
  · exact .inl ⟨h, wait_counts h⟩
  · exact .inr ⟨h, wait_expires h⟩

/-! ## Inputs -/

theorem inputAt_zero (s : State) : s.inputAt 0 = s.input := by
  unfold State.inputAt State.input
  cases s.stim <;> simp

theorem inputAt_advance (s : State) (k : Nat) : s.advance.inputAt k = s.inputAt (k + 1) := by
  unfold State.inputAt
  simp only [State.advance_stim, State.advance_cycle, List.drop_tail]
  rw [Nat.add_right_comm, Nat.add_assoc]

theorem colAt_zero (s : State) : s.colAt 0 = s.colIn := by
  simp [State.colAt, State.colIn, inputAt_zero]

/-- The lines at or above `NCOLS` do not exist. -/
theorem colIn_masked (s : State) : s.colIn &&& ~~~colMask s.cfg.ncols = 0 := by
  simp only [State.colIn]
  generalize s.input.col = c
  generalize colMask s.cfg.ncols = m
  ext i
  simp

/-! ## Edge detector (rules R88 to R90) -/

/-- While armed for a release with some column counted as asserted, columns that read 0 are an edge (rule R105). -/
theorem fell_to_zero {prev : Cols} (h : prev ≠ 0) : fell prev 0 = true := by
  have e : prev &&& ~~~(0 : Cols) = prev := BitVec.and_allOnes
  simpa only [fell, e, decide_eq_true_eq] using h

/-- While nothing falls, the columns counted as asserted stay asserted (rule R105). -/
theorem not_fell_keeps {prev col : Cols} (hp : prev ≠ 0) (h : fell prev col = false) : col ≠ 0 := by
  rintro rfl
  rw [fell_to_zero hp] at h
  cases h

/-- What one cycle does to a detector that has not been armed in it: it fires, or it keeps its state and only tracks
the columns (rule R88). -/
theorem edgeUpdate_cases (s : State) :
    (s.edgeFires = true ∧ s.edgeUpdate = { s with colPrev := s.colIn, edgeLatch := true, edgeEn := false }) ∨
    (s.edgeFires = false ∧ s.edgeUpdate = { s with colPrev := s.colIn }) := by
  cases h : s.edgeFires <;> simp [State.edgeUpdate, h]

theorem edgeFires_armed {s : State} (h : s.edgeFires = true) : s.edgeEn = true := by
  simp [State.edgeFires] at h; exact h.1

/-- A detector that watches keeps watching (rule R88: one-shot, the latch is kept). -/
theorem watching_edgeUpdate {s : State} {p : EdgePol} (h : s.Watching p) : s.edgeUpdate.Watching p := by
  obtain ⟨hp, he⟩ := h
  rcases edgeUpdate_cases s with ⟨hf, h⟩ | ⟨hf, h⟩ <;> simp [State.Watching, h, hp, he]

theorem disarmed_edgeUpdate {s : State} (h : s.Disarmed) : s.edgeUpdate.Disarmed := by
  obtain ⟨hp, he, hl⟩ := h
  rcases edgeUpdate_cases s with ⟨hf, h⟩ | ⟨hf, h⟩
  · rw [edgeFires_armed hf] at he; cases he
  · simp [State.Disarmed, h, hp, he, hl]

/-- While a release is watched for and has not latched, some column counts as asserted (rule R105). -/
theorem release_not_missed {s : State} (hp : s.edgePol = .fall) (h : s.edgeEn = true → s.colPrev ≠ 0) :
    s.edgeUpdate.edgeEn = true → s.edgeUpdate.colPrev ≠ 0 := by
  rcases edgeUpdate_cases s with ⟨hf, e⟩ | ⟨hf, e⟩ <;> rw [e]
  · simp
  · intro he
    simp only [State.edgeFires, hp, edgeHit, Bool.and_eq_false_iff] at hf
    rcases hf with hf | hf
    · rw [hf] at he; cases he
    · exact not_fell_keeps (h he) hf

/-! ## ROM read and matcher (rules R35, R65) -/

theorem memRead_eq_some {rom : Vector Byte 24} {i : Nat} {v : Byte} :
    memRead rom i = some v ↔ ∃ h : i < 24, rom[i] = v := by
  simp [memRead, Vector.getElem?_eq_some_iff]

theorem memRead_eq_none {rom : Vector Byte 24} {i : Nat} : memRead rom i = none ↔ 24 ≤ i := by
  simp [memRead]

/-- A match found below `n` is an index below `n` that holds the value. -/
theorem lastMatchBelow_some {rom : Vector Byte 24} {v : Byte} {n m : Nat} (h : lastMatchBelow rom v n = some m) :
    m < n ∧ memRead rom m = some v := by
  induction n with
  | zero => cases h
  | succ n ih =>
    simp only [lastMatchBelow] at h
    split at h
    next hm => cases h; exact ⟨Nat.lt_succ_self _, hm⟩
    next => exact ⟨Nat.lt_succ_of_lt (ih h).1, (ih h).2⟩

theorem lastMatch_some {c : Config} {v : Byte} {m : Nat} (h : lastMatch c v = some m) :
    m < 24 ∧ memRead c.keyTable m = some v := lastMatchBelow_some h

/-! ## Exec and step (rule R30) -/

/-- An operation answers a next state, but for the named stop of ENCODE on an absent index (rule R35). -/
theorem exec_next_or_romIndex (i : Instr) (s : State) :
    (∃ t, exec i s = .next t) ∨ (i = .encode ∧ 24 ≤ s.keyIdx.toNat ∧ exec i s = .fault (.romIndex s.keyIdx.toNat)) := by
  cases i
  case encode =>
    simp only [exec, execEncode]
    split
    next h => exact .inr ⟨trivial, memRead_eq_none.mp h, rfl⟩
    next => exact .inl ⟨_, rfl⟩
  all_goals exact .inl ⟨_, rfl⟩

theorem endCycle_eq_next {o : Host.Outcome State Fault Refusal} {t : State} :
    endCycle o = .next t ↔ ∃ u, o = .next u ∧ t = u.advance := by
  cases o <;> simp [endCycle, eq_comm]

/-- Everything a step that answers a next state can have been: a reset cycle, or the decoded operation's cycle. -/
theorem step_cases {s t : State} (h : step s = .next t) :
    s.cfg.wf = true ∧
    ((s.input.rst = true ∧ t = s.resetCycle.advance) ∨
     (s.input.rst = false ∧ ∃ i u, decode s.fsm = .ok i ∧ exec i s = .next u ∧ t = u.advance)) := by
  unfold step at h
  split at h
  next hc =>
    refine ⟨hc, ?_⟩
    split at h
    next hr => cases h; exact .inl ⟨hr, rfl⟩
    next hr =>
      refine .inr ⟨by simpa using hr, ?_⟩
      split at h
      next i hd =>
        obtain ⟨u, hu, rfl⟩ := endCycle_eq_next.mp h
        exact ⟨i, u, hd, hu, rfl⟩
      next => cases h
  next => cases h

/-- The step of a cycle without reset in an admitted configuration, for an operation that answers a next state. -/
theorem step_of_exec {s u : State} {i : Instr} (hc : s.cfg.wf = true) (hr : s.input.rst = false)
    (hd : decode s.fsm = .ok i) (he : exec i s = .next u) : step s = .next u.advance := by
  simp [step, hc, hr, hd, he, endCycle]

end Sys2Proof.Machine
end

