-- ==== Sys2Proof/Laws/Operands.lean ====
section
/-! SUPPORT. What an admitted configuration gives (rule R7), and the RawScanCode fields of an accumulated sample
(rules R49, R61). -/
namespace Sys2Proof.Machine

/-! ## Admitted configurations -/

/-- The numeric conditions of rule R7. -/
theorem wf_numbers {c : Config} (h : c.wf = true) :
    (1 ≤ c.ncols ∧ c.ncols ≤ 4) ∧ (1 ≤ c.carPeriod ∧ c.carHigh ≤ c.carPeriod) ∧
    (1 ≤ c.t1Off ∧ 1 ≤ c.t1On ∧ 1 ≤ c.t0On ∧ 1 ≤ c.t0Off ∧ 1 ≤ c.debounce ∧ 1 ≤ c.interframe ∧ 1 ≤ c.rowSettle) ∧
    (c.t1Off < 2 ^ c.tmrW ∧ c.t1On * c.carPeriod < 2 ^ c.tmrW ∧ c.t0On * c.carPeriod < 2 ^ c.tmrW ∧
      c.t0Off < 2 ^ c.tmrW ∧ c.debounce < 2 ^ c.tmrW ∧ c.interframe < 2 ^ c.tmrW ∧ c.rowSettle < 2 ^ c.tmrW) := by
  simp only [Config.wf, Bool.and_eq_true, Config.ncolsInRange, Config.carrierInRange, Config.durationsPositive,
    Config.timerWideEnough, decide_eq_true_eq] at h
  obtain ⟨⟨⟨⟨⟨⟨⟨-, -⟩, h1⟩, h2⟩, h3⟩, h4⟩, -⟩, -⟩ := h
  exact ⟨h1, h2, h3, h4⟩

/-- A first segment lasts at least one cycle and fits the timer. -/
theorem segA_len {c : Config} (h : c.wf = true) (b : Bool) : 1 ≤ (segA c b).len ∧ (segA c b).len < 2 ^ c.tmrW := by
  obtain ⟨-, h2, h3, h4⟩ := wf_numbers h
  have := Nat.mul_le_mul h3.2.2.1 h2.1
  cases b <;> simp [segA] <;> omega

/-- A second segment lasts at least one cycle and fits the timer. -/
theorem segB_len {c : Config} (h : c.wf = true) (b : Bool) : 1 ≤ (segB c b).len ∧ (segB c b).len < 2 ^ c.tmrW := by
  obtain ⟨-, h2, h3, h4⟩ := wf_numbers h
  have := Nat.mul_le_mul h3.2.1 h2.1
  cases b <;> simp [segB] <;> omega

/-! ## RawScanCode (rule R49) -/

theorem rowCode_high (r : RowNum) : (rowCode r).extractLsb' 4 4 = 0 := by revert r; decide

theorem colField_high (c : Cols) : (colField c).extractLsb' 4 4 = c := by revert c; decide

theorem high_or (a b : Byte) : (a ||| b).extractLsb' 4 4 = a.extractLsb' 4 4 ||| b.extractLsb' 4 4 := by
  ext i hi; simp

/-- The COLS field gathers the sampled column masks. -/
theorem accumulate_high (raw : Byte) (r : RowNum) (c : Cols) :
    (accumulate raw r c).extractLsb' 4 4 = raw.extractLsb' 4 4 ||| c := by
  unfold accumulate
  split
  · rw [high_or, high_or, rowCode_high, colField_high]; simp
  · next h => simp at h; simp [h]

theorem or_masked {a b m : Cols} (h1 : a &&& ~~~m = 0) (h2 : b &&& ~~~m = 0) : (a ||| b) &&& ~~~m = 0 := by
  revert a b m; decide

theorem or_meets_mask {a b m : Cols} (h2 : b &&& ~~~m = 0) (h : a &&& m ≠ 0 ∨ b ≠ 0) : (a ||| b) &&& m ≠ 0 := by
  revert a b m; decide

/-- A RawScanCode that is not 0 names a column, before and after a sample. -/
theorem accumulate_names {raw : Byte} {r : RowNum} {c : Cols} {n : Nat} (h1 : raw ≠ 0 → rawCols n raw ≠ 0)
    (h2 : c &&& ~~~colMask n = 0) (h : accumulate raw r c ≠ 0) : rawCols n (accumulate raw r c) ≠ 0 := by
  unfold rawCols at *
  rw [accumulate_high]
  apply or_meets_mask h2
  by_cases hc : c = 0
  · exact .inl (h1 (by simpa [accumulate, hc] using h))
  · exact .inr hc

end Sys2Proof.Machine
end

