-- ==== Sys2Proof/Laws/PerInstr.lean ====
section
/-! SUPPORT. A fact about every operation as syntax, one lemma for each constructor: its code is one of the twelve that
name an operation (30_encoding.md rules R46, R47). -/
namespace Sys2Proof.Laws.CodeBound

/-- The code of an operation is no reserved code. -/
def Statement (i : Instr) : Prop := codeWf (Sys2Proof.encode i) = true

theorem idle : Statement .idle := rfl
theorem debounce : Statement .debounce := rfl
theorem scanDrive : Statement .scanDrive := rfl
theorem scanSample : Statement .scanSample := rfl
theorem scanEnd : Statement .scanEnd := rfl
theorem resolve : Statement .resolve := rfl
theorem encode : Statement .encode := rfl
theorem txLoad : Statement .txLoad := rfl
theorem txSeg : Statement .txSeg := rfl
theorem txEnd : Statement .txEnd := rfl
theorem decideTx : Statement .decideTx := rfl
theorem interframe : Statement .interframe := rfl

end Sys2Proof.Laws.CodeBound
end

