-- ==== Sys2Proof/Laws/Runs.lean ====
section
/-! SUPPORT. Runs of several cycles: how they compose, and what they carry along unchanged (the configuration and the
inputs to come). -/
namespace Sys2Proof.Machine

/-- An operation touches neither the configuration (20_memory.md rule R36) nor the inputs to come. -/
theorem exec_keeps_environment {i : Instr} {s t : State} (h : exec i s = .next t) :
    t.cfg = s.cfg ∧ t.stim = s.stim ∧ t.cycle = s.cycle := by
  cases i
  case encode =>
    simp only [exec, execEncode] at h
    split at h
    · cases h
    · cases h; exact ⟨rfl, rfl, rfl⟩
  case resolve =>
    simp only [exec, execResolve] at h
    cases h
    split
    · exact ⟨rfl, rfl, rfl⟩
    · split <;> exact ⟨rfl, rfl, rfl⟩
  case decideTx =>
    simp only [exec, execDecide] at h
    cases h
    split
    · exact ⟨rfl, rfl, rfl⟩
    · split <;> exact ⟨rfl, rfl, rfl⟩
  case txSeg =>
    simp only [exec, execTxSeg] at h
    cases h
    rcases wait_cases s _ _ with ⟨_, e⟩ | ⟨_, e⟩ <;> rw [e]
    · exact ⟨rfl, rfl, rfl⟩
    · split
      · split <;> exact ⟨rfl, rfl, rfl⟩
      · exact ⟨rfl, rfl, rfl⟩
  case debounce | scanDrive | interframe =>
    simp only [exec, execDebounce, execScanDrive, execInterframe] at h
    cases h
    rcases wait_cases s _ _ with ⟨_, e⟩ | ⟨_, e⟩ <;> rw [e] <;> exact ⟨rfl, rfl, rfl⟩
  case idle | scanSample =>
    simp only [exec, execIdle, execScanSample] at h
    cases h
    split <;> exact ⟨rfl, rfl, rfl⟩
  case scanEnd | txLoad | txEnd =>
    simp only [exec, execScanEnd, execTxLoad, execTxEnd] at h
    cases h
    exact ⟨rfl, rfl, rfl⟩

/-- A step keeps the configuration, and the inputs to come move on by one cycle. -/
theorem step_keeps_environment {s t : State} (h : step s = .next t) :
    t.cfg = s.cfg ∧ ∀ k, t.inputAt k = s.inputAt (k + 1) := by
  obtain ⟨-, ⟨-, rfl⟩ | ⟨-, i, u, -, he, rfl⟩⟩ := step_cases h
  · exact ⟨rfl, fun k => inputAt_advance s k⟩
  · obtain ⟨hc, hs, hn⟩ := exec_keeps_environment he
    refine ⟨hc, fun k => ?_⟩
    rw [inputAt_advance]
    simp only [State.inputAt, hs, hn]

@[simp] theorem reaches_zero {s t : State} : Reaches 0 s t ↔ t = s := Iff.rfl

theorem reaches_succ {n : Nat} {s t : State} : Reaches (n + 1) s t ↔ ∃ u, step s = .next u ∧ Reaches n u t := Iff.rfl

theorem reaches_one {s t : State} (h : step s = .next t) : Reaches 1 s t := reaches_succ.mpr ⟨t, h, reaches_zero.mpr rfl⟩

theorem reaches_trans {m n : Nat} {s u t : State} (h₁ : Reaches m s u) (h₂ : Reaches n u t) : Reaches (m + n) s t := by
  induction m generalizing s with
  | zero => rw [reaches_zero] at h₁; subst h₁; simpa using h₂
  | succ m ih =>
    obtain ⟨v, hv, hr⟩ := reaches_succ.mp h₁
    rw [Nat.add_right_comm]
    exact reaches_succ.mpr ⟨v, hv, ih hr⟩

theorem reaches_unique {n : Nat} {s t u : State} (h₁ : Reaches n s t) (h₂ : Reaches n s u) : t = u := by
  induction n generalizing s with
  | zero => exact h₁.trans h₂.symm
  | succ n ih =>
    obtain ⟨v, hv, hr⟩ := h₁
    obtain ⟨w, hw, hr'⟩ := h₂
    rw [hv] at hw
    cases hw
    exact ih hr hr'

/-- A run keeps the configuration, and its inputs are those it was given. -/
theorem reaches_keeps_environment {n : Nat} {s t : State} (h : Reaches n s t) :
    t.cfg = s.cfg ∧ ∀ k, t.inputAt k = s.inputAt (n + k) := by
  induction n generalizing s with
  | zero => rw [reaches_zero] at h; subst h; simp
  | succ n ih =>
    obtain ⟨u, hu, hr⟩ := reaches_succ.mp h
    obtain ⟨hc, hi⟩ := step_keeps_environment hu
    obtain ⟨hc', hi'⟩ := ih hr
    refine ⟨hc'.trans hc, fun k => ?_⟩
    rw [hi', hi]
    congr 1
    omega

/-- No reset in a longer stretch, none in what is left of it after a run. -/
theorem noReset_after {m n : Nat} {s t : State} (h : Reaches m s t) (hn : s.noReset (m + n)) : t.noReset n := by
  intro k hk
  rw [(reaches_keeps_environment h).2]
  exact hn (m + k) (by omega)

theorem noReset_mono {m n : Nat} {s : State} (h : s.noReset n) (hm : m ≤ n) : s.noReset m :=
  fun k hk => h k (by omega)

theorem noReset_now {n : Nat} {s : State} (h : s.noReset (n + 1)) : s.input.rst = false := by
  rw [← inputAt_zero]; exact h 0 (by omega)

/-! ## Operation traces (rule R55) -/

/-- One cycle of a trace. -/
theorem opTrace_succ {n : Nat} {s t : State} {i : Instr} (hd : decode s.fsm = .ok i) (h : step s = .next t) :
    opTrace (n + 1) s = i :: opTrace n t := by
  simp only [opTrace, hd, h]

/-- The trace of a longer run is that of its first part, which meets no stop, and then that of the rest. -/
theorem opTrace_append {m n : Nat} {s t : State} (h : Reaches m s t) (hl : (opTrace m s).length = m) :
    opTrace (m + n) s = opTrace m s ++ opTrace n t := by
  induction m generalizing s with
  | zero => rw [reaches_zero] at h; subst h; simp [opTrace]
  | succ m ih =>
    obtain ⟨u, hu, hr⟩ := reaches_succ.mp h
    rw [Nat.add_right_comm]
    simp only [opTrace, hu] at hl ⊢
    split at hl
    next => simp at hl
    next i hd =>
      rw [ih hr (by simpa using hl)]
      rfl

/-- An induction over a run: what holds at its start and is kept by every step holds at its end. -/
theorem reaches_induction {P : State → Prop} (hp : ∀ s t, P s → step s = .next t → P t) {n : Nat} {s t : State}
    (h : Reaches n s t) (hs : P s) : P t := by
  induction n generalizing s with
  | zero => rw [reaches_zero] at h; subst h; exact hs
  | succ n ih =>
    obtain ⟨u, hu, hr⟩ := reaches_succ.mp h
    exact ih hr (hp s u hs hu)

end Sys2Proof.Machine
end

