-- ==== Sys2Proof/Tests/Slice0.lean ====
section
/-! SUPPORT. Tests of the model and witnesses of the statements' hypotheses.
Expected results are those of spec/95_test_vectors.md (the vector's name stands beside each test) or of the words of
30_encoding.md rule R46. -/
namespace Sys2Proof.Tests
open Sys2Proof Sys2Proof.Machine

/-! ## Well-formedness (rule R7): one ill-formed configuration for each check -/

theorem test_nominal_is_admitted : Config.nominal.wf = true := by decide
theorem test_wf_duplicate_key :
    ({ Config.nominal with keyTable := Config.nominal.keyTable.set 9 0x40 } : Config).wf = false := by decide
theorem test_wf_payload_64 :
    ({ Config.nominal with funcTable := Config.nominal.funcTable.set 0 64 } : Config).wf = false := by decide
theorem test_wf_no_column : ({ Config.nominal with ncols := 0 } : Config).wf = false := by decide
theorem test_wf_five_columns : ({ Config.nominal with ncols := 5 } : Config).wf = false := by decide
theorem test_wf_high_above_period : ({ Config.nominal with carHigh := 101 } : Config).wf = false := by decide
theorem test_wf_zero_duration : ({ Config.nominal with rowSettle := 0 } : Config).wf = false := by decide
theorem test_wf_timer_too_narrow : ({ Config.nominal with tmrW := 18 } : Config).wf = false := by decide
theorem test_wf_shift_three : ({ Config.nominal with frameShift := 3 } : Config).wf = false := by decide
theorem test_wf_fixed_addresses_differ : ({ Config.nominal with addrMode := .fixed } : Config).wf = false := by decide
theorem test_wf_reserved_code : codeWf 0b1100 = false ∧ codeWf 0b1011 = true := by decide

/-! ## Decoding: the words of rule R46, bit by bit -/

theorem test_decode_scan_family :
    decode 0b0000#4 = .ok .idle ∧ decode 0b0001#4 = .ok .debounce ∧ decode 0b0010#4 = .ok .scanDrive ∧
    decode 0b0011#4 = .ok .scanSample ∧ decode 0b0100#4 = .ok .scanEnd := by decide
theorem test_decode_resolve_encode_family :
    decode 0b0101#4 = .ok .resolve ∧ decode 0b0110#4 = .ok .encode := by decide
theorem test_decode_transmit_family :
    decode 0b0111#4 = .ok .txLoad ∧ decode 0b1000#4 = .ok .txSeg ∧ decode 0b1001#4 = .ok .txEnd := by decide
theorem test_decode_retransmit_family :
    decode 0b1010#4 = .ok .decideTx ∧ decode 0b1011#4 = .ok .interframe := by decide
theorem test_decode_reserved :
    decode 0b1100#4 = .error (.reserved 0b1100#4) ∧ decode 0b1111#4 = .error (.reserved 0b1111#4) ∧
    decodeNat 16 = .error (.tooWide 16) ∧ decodeTableWord 8 0x0C = none ∧ decodeTableWord 8 0x18 = none ∧
    decodeTableWord 8 0x08 = some .txSeg := by decide

/-! ## The test configuration S of 95_test_vectors.md section 1 -/

/-- Configuration S, with the table and frame constants of the same section. -/
def cfgS : Config :=
  { Config.nominal with
    carPeriod := 4, carHigh := 1, t1Off := 10, t1On := 3, t0On := 3, t0Off := 8, debounce := 5, interframe := 7,
    rowSettle := 2, tmrW := 6 }

/-- RESET_STATE under configuration S, with one line of inputs. -/
def start (col : Cols) (sel : BitVec 2 := 0) : State := State.resetWith cfgS [⟨false, col, sel⟩] 0

/-- The operation answers exactly this next state. -/
def answers (o : Host.Outcome State Fault Refusal) (t : State) : Bool :=
  match o with
  | .next u => decide (u = t)
  | .fault _ => false
  | .refused _ => false

/-- The operation answers a next state of which this holds. -/
def next (o : Host.Outcome State Fault Refusal) (p : State → Bool) : Bool :=
  match o with
  | .next u => p u
  | .fault _ => false
  | .refused _ => false

/-- The machine stops with this fault. -/
def faults (o : Host.Outcome State Fault Refusal) (f : Fault) : Bool :=
  match o with
  | .next _ => false
  | .fault g => decide (g = f)
  | .refused _ => false

/-! ## Scan family -/

/-- A state of IDLE that wakes (SC2). -/
def waking : State :=
  { start 0 with edgeLatch := true, edgeEn := false, raw := 0x33, keyIdx := 4, errNokey := true, errNomatch := true }

theorem test_SC1 : answers (exec .idle (start 0)) (start 0) = true := by decide
theorem test_SC2 :
    answers (exec .idle waking)
      { waking with
        fsm := 1, tmr := 5, raw := 0, keyIdx := 31, errNokey := false, errNomatch := false, edgeLatch := false } =
      true := by decide
theorem test_SC3 :
    next (exec .debounce { start 0 with fsm := 1, tmr := 3, edgeEn := false }) (fun t => t.tmr = 2 ∧ t.fsm = 1) =
      true := by decide
theorem test_SC4 :
    next (exec .debounce { start 0 with fsm := 1, tmr := 1, edgeEn := false })
      (fun t => t.fsm = 2 ∧ t.row = 0 ∧ t.tmr = 2) = true := by decide
theorem test_SC5 :
    ({ start 0 with fsm := 2, row := 2, tmr := 2, edgeEn := false } : State).rowDrive = 0b000100 ∧
    next (exec .scanDrive { start 0 with fsm := 2, row := 2, tmr := 2, edgeEn := false })
      (fun t => t.tmr = 1 ∧ t.fsm = 2) = true := by decide
theorem test_SC6 :
    next (exec .scanDrive { start 0 with fsm := 2, row := 2, tmr := 1, edgeEn := false })
      (fun t => t.tmr = 0 ∧ t.fsm = 3 ∧ t.row = 2) = true := by decide
theorem test_SC7 :
    next (exec .scanSample { start 0b0100 with fsm := 3, row := 1, edgeEn := false })
      (fun t => t.fsm = 2 ∧ t.row = 2 ∧ t.tmr = 2 ∧ t.raw = 0x41 ∧ t.colPrev = 0b0100) = true := by decide
theorem test_SC8_SC9 :
    next (exec .scanSample { start 0b0011 with fsm := 3, row := 3, raw := 0x21, edgeEn := false })
      (fun t => t.fsm = 2 ∧ t.row = 4 ∧ t.raw = 0x33) = true ∧
    next (exec .scanSample { start 0 with fsm := 3, row := 5, raw := 0x10, edgeEn := false })
      (fun t => t.fsm = 4 ∧ t.raw = 0x10) = true := by decide
theorem test_SC10 :
    next (exec .scanEnd { start 0 with fsm := 4, edgeEn := false, edgeLatch := true })
      (fun t => t.fsm = 5 ∧ t.errNokey = true ∧ t.edgeEn = true ∧ t.edgePol = .fall ∧ t.edgeLatch = false ∧
        t.colPrev = 0) = true := by decide
theorem test_SC12_ED9 :
    next (exec .scanEnd { start 0b0001 with fsm := 4, raw := 0x85, edgeEn := false, edgeLatch := true })
      (fun t => t.errNokey = false ∧ t.colPrev = 0b1000) = true ∧
    next (exec .scanEnd { start 0b0001 with fsm := 4, raw := 0x10 })
      (fun t => t.fsm = 5 ∧ t.edgePol = .fall ∧ t.colPrev = 0b0001 ∧ t.edgeLatch = false ∧ t.edgeEn = true) =
      true := by decide

/-! ## Resolve and encode family -/

/-- A state of RESOLVE. -/
def resolving (raw : Byte) (col : Cols) : State :=
  { start col with fsm := 5, raw := raw, edgePol := .fall, colPrev := col }

theorem test_RS2_RS3 :
    next (exec .resolve (resolving 0x85 0b1000)) (fun t => t.fsm = 6 ∧ t.keyIdx = 23 ∧ t.edgePol = .fall) = true ∧
    next (exec .resolve (resolving 0x30 0b0011))
      (fun t => t.fsm = 0 ∧ t.err = 0b10 ∧ t.keyIdx = 31 ∧ t.edgePol = .rise ∧ t.edgeEn = true ∧
        t.colPrev = 0b0011) = true := by decide
theorem test_RS4_RS5_RS6 :
    next (exec .resolve { resolving 0 0 with errNokey := true })
      (fun t => t.fsm = 0 ∧ t.err = 0b11 ∧ t.keyIdx = 31) = true ∧
    next (exec .resolve
        { resolving 0 0 with errNokey := true, cfg := { cfgS with keyTable := cfgS.keyTable.set 7 0 } })
      (fun t => t.fsm = 0 ∧ t.err = 0b01 ∧ t.keyIdx = 7 ∧ t.edgePol = .rise) = true ∧
    lastMatch { cfgS with keyTable := cfgS.keyTable.set 9 0x40 } 0x40 = some 9 := by decide

/-- A state of ENCODE. -/
def encoding (k : KeyIdx) (sel : BitVec 2) (t : Bool) : State := { start 0 sel with fsm := 6, keyIdx := k, toggle := t }

theorem test_EN4_EN12 :
    next (exec .encode (encoding 5 3 true)) (fun t => t.fsm = 7 ∧ t.frame = 0xE314 ∧ t.heldDown = true) = true ∧
    faults (exec .encode (encoding 31 0 false)) (.romIndex 31) = true := by decide
theorem test_EN10_EN11 :
    next (exec .encode
        { encoding 5 3 false with
          cfg := { cfgS with addrMode := .fixed, addrMap := #v[0x40, 0x40, 0x40, 0x40] } })
      (fun t => t.frame = 0xC114) = true ∧
    next (exec .encode { encoding 1 0 false with cfg := { cfgS with startBits := 0x3FFF } })
      (fun t => t.frame = 0) = true := by decide

/-! ## Transmit family -/

/-- A state of TX_SEG. -/
def sending (shreg : FrameWord) (bit : BitVec 4) (half on : Bool) (tmr phase : Nat) : State :=
  { start 0 with
    fsm := 8, frame := 0xC000, shreg := shreg, bitcnt := bit, half := half, segOn := on, tmr := tmr, carPhase := phase }

theorem test_TX1 :
    next (exec .txLoad { start 0 with fsm := 7, frame := 0xC000 })
      (fun t => t.fsm = 8 ∧ t.shreg = 0xC000 ∧ t.segOn = false ∧ t.tmr = 10 ∧ t.carPhase = 0) = true := by decide
theorem test_TX2 :
    next (exec .txLoad { start 0 with fsm := 7 }) (fun t => t.fsm = 8 ∧ t.segOn = true ∧ t.tmr = 12) = true := by
  decide
theorem test_TX3_TX4_TX7 :
    next (exec .txSeg (sending 0xC000 0 true true 5 3)) (fun t => t.fsm = 8 ∧ t.tmr = 4 ∧ t.carPhase = 0) = true ∧
    next (exec .txSeg (sending 0xC000 0 false false 1 1))
      (fun t => t.half = true ∧ t.segOn = true ∧ t.tmr = 12 ∧ t.carPhase = 0) = true ∧
    next (exec .txSeg (sending 0 2 false true 1 3))
      (fun t => t.half = true ∧ t.segOn = false ∧ t.tmr = 8 ∧ t.carPhase = 0) = true := by decide
theorem test_TX5_TX6_TX8 :
    next (exec .txSeg (sending 0xC000 0 true true 1 3))
      (fun t => t.shreg = 0x8000 ∧ t.bitcnt = 1 ∧ t.half = false ∧ t.segOn = false ∧ t.tmr = 10) = true ∧
    next (exec .txSeg (sending 0x8000 1 true true 1 3))
      (fun t => t.shreg = 0 ∧ t.bitcnt = 2 ∧ t.half = false ∧ t.segOn = true ∧ t.tmr = 12) = true ∧
    next (exec .txSeg (sending 0 13 true false 1 2))
      (fun t => t.fsm = 9 ∧ t.bitcnt = 14 ∧ t.carPhase = 3 ∧ t.tmr = 1) = true := by decide
theorem test_TX9 :
    next (exec .txEnd { start 0 with fsm := 9, frame := 0xC000, bitcnt := 14, half := true, tmr := 1, carPhase := 3 })
      (fun t => t.fsm = 10 ∧ t.tmr = 0 ∧ t.bitcnt = 0 ∧ t.half = false ∧ t.carPhase = 0 ∧ t.shreg = 0 ∧
        t.frame = 0xC000) = true := by decide
theorem test_emitter :
    (sending 0xC000 0 true true 5 0).irOut = true ∧ (sending 0xC000 0 true true 5 1).irOut = false ∧
    (sending 0xC000 0 false false 5 0).irOut = false ∧
    ({ sending 0xC000 0 true true 5 0 with fsm := 9 } : State).irOut = false := by decide

/-! ## Retransmit family -/

/-- A state of DECIDE. -/
def deciding (latch : Bool) (col : Cols) : State :=
  { start col with
    fsm := 10, frame := 0xC000, heldDown := true, edgePol := .fall, edgeEn := !latch, edgeLatch := latch,
    colPrev := 0b0001 }

theorem test_DC2_DC3 :
    next (exec .decideTx (deciding false 0))
      (fun t => t.fsm = 11 ∧ t.tmr = 7 ∧ t.edgeLatch = true ∧ t.edgeEn = false ∧ t.colPrev = 0) = true ∧
    next (exec .decideTx (deciding true 0b0001))
      (fun t => t.fsm = 11 ∧ t.tmr = 7 ∧ t.edgeEn = true ∧ t.edgeLatch = false ∧ t.edgePol = .fall ∧
        t.colPrev = 0b0001 ∧ t.toggle = false) = true := by decide
theorem test_DC4 :
    next (exec .decideTx (deciding true 0))
      (fun t => t.fsm = 0 ∧ t.heldDown = false ∧ t.toggle = true ∧ t.edgeEn = true ∧ t.edgePol = .rise ∧
        t.edgeLatch = false ∧ t.frame = 0xC000) = true := by decide
theorem test_IF1 : next (exec .interframe { start 0 with fsm := 11, tmr := 4 }) (fun t => t.tmr = 3 ∧ t.fsm = 11) = true := by
  decide
theorem test_IF2 :
    next (exec .interframe { start 0 with fsm := 11, tmr := 1, frame := 0xC000 })
      (fun t => t.fsm = 7 ∧ t.tmr = 0 ∧ t.frame = 0xC000) = true := by decide

/-! ## Edge detector, reset, faults -/

theorem test_ED1_ED3_ED4 :
    (start 0b0010).edgeUpdate = { start 0b0010 with edgeLatch := true, edgeEn := false, colPrev := 0b0010 } ∧
    ({ start 0b0110 with colPrev := 0b0010 } : State).edgeUpdate.edgeLatch = true ∧
    ({ start 0 with colPrev := 0b0010 } : State).edgeUpdate = start 0 := by decide
theorem test_ED6_ED7_ED8 :
    ({ start 0b0001 with edgePol := .fall, colPrev := 0b0011 } : State).edgeUpdate.edgeLatch = true ∧
    ({ start 0b0001 with edgePol := .fall } : State).edgeUpdate.edgeLatch = false ∧
    ({ start 0 with edgeEn := false, edgeLatch := true, edgePol := .fall, colPrev := 0b0001 } : State).edgeUpdate =
      { start 0 with edgeEn := false, edgeLatch := true, edgePol := .fall } := by decide

/-- The start state of RT1, in a reset cycle. -/
def resetting : State :=
  { sending 0x8000 0 false true 5 0 with
    toggle := true, heldDown := true, edgeEn := false, edgeLatch := true, stim := [⟨true, 0b0001, 0⟩] }

theorem test_RT1 : answers (step resetting) (State.resetWith cfgS [] 1) = true := by decide
theorem test_RT2 : faults (step { start 0 with fsm := 12 }) (.illegalState 12) = true := by decide
theorem test_RT3 : answers (step { resetting with fsm := 12 }) (State.resetWith cfgS [] 1) = true := by decide
theorem test_fetch_word : next (step (State.reset.withFetchWord 8 0x09)) (fun t => t.fsm = 10) = true := by decide
theorem test_two_columns_mask_the_others :
    ({ start 0b1110 with cfg := { cfgS with ncols := 2 } } : State).colIn = 0b0010 := by decide

/-! ## Witnesses: for each statement with hypotheses, states and operands that meet all of them together

A theorem `witness_<Statement>` has one conjunct for each clause of the statement, at a boundary value where the clause
ranges over numbers. -/

/-- Configuration S with every duration 1 and a carrier of one cycle, so that a bit lasts 2 cycles and a frame 28. -/
def cfgT : Config :=
  { cfgS with
    carPeriod := 1, carHigh := 1, t1Off := 1, t1On := 1, t0On := 1, t0Off := 1, debounce := 1, interframe := 1,
    rowSettle := 1, tmrW := 1 }

/-- `n` cycles without reset that show the columns `c`. -/
def lines (n : Nat) (c : Cols) : List Input := List.replicate n ⟨false, c, 0⟩

/-- n steps, if none stops. -/
def stepsTo : Nat → State → Option State
  | 0, s => some s
  | n + 1, s =>
    match step s with
    | .next t => stepsTo n t
    | .fault _ => none
    | .refused _ => none

theorem reaches_of_stepsTo {n : Nat} {s : State} {p : State → Bool} (h : (stepsTo n s).any p = true) :
    ∃ t, Reaches n s t ∧ p t = true := by
  induction n generalizing s with
  | zero => exact ⟨s, rfl, by simpa [stepsTo] using h⟩
  | succ n ih =>
    simp only [stepsTo] at h
    split at h
    next t ht => obtain ⟨u, hr, hp⟩ := ih h; exact ⟨u, ⟨t, ht, hr⟩, hp⟩
    next => simp at h
    next => simp at h

theorem reset_runs {c : Config} {l : List Input} (hc : c.wf = true) (hl : (State.resetWith c l 0).input.rst = false) :
    ∃ t, Reaches 1 (State.resetWith c l 0) t := ⟨_, reaches_one (step_of_exec (i := .idle) hc hl rfl rfl)⟩

/-! ### Encoding, step, reset -/

theorem witness_OperationCodes : 12 ≤ (0b1100#4).toNat ∧ 12 ≤ (0b1111#4).toNat := by decide
theorem witness_DecodeEncodeAgree : decode 0b1011#4 = .ok .interframe := rfl
theorem witness_StepRunsDecodedOperation :
    ((start 0).cfg.wf = true ∧ (start 0).input.rst = false ∧ decode (start 0).fsm = .ok .idle ∧
      ∃ t, exec .idle (start 0) = .next t) ∧
    ((encoding 31 0 false).cfg.wf = true ∧ (encoding 31 0 false).input.rst = false ∧
      decode (encoding 31 0 false).fsm = .ok .encode ∧ ∃ f, exec .encode (encoding 31 0 false) = .fault f) :=
  ⟨⟨by decide, rfl, rfl, _, rfl⟩, by decide, rfl, rfl, _, rfl⟩
theorem witness_ResetOverridesEverything : resetting.cfg.wf = true ∧ ∀ k < 1, (resetting.inputAt k).rst = true := by
  decide
theorem witness_IllFormedConfigurationRefused :
    (∃ s : State, ¬s.cfg.Admitted) ∧ ∃ s : State, s.cfg.Admitted :=
  ⟨⟨{ start 0 with cfg := { cfgS with carPeriod := 0 } }, by unfold Config.Admitted; decide⟩,
    ⟨start 0, by unfold Config.Admitted; decide⟩⟩
theorem witness_ReservedCodesUnreachable :
    (∃ s : State, s.cfg.wf = true ∧ s.input.rst = false ∧ 12 ≤ s.fsm.toNat) ∧
    (decode (start 0).fsm = .ok .idle ∧ ∃ t, exec .idle (start 0) = .next t) ∧
    (cfgS.wf = true ∧ ∃ t, Reaches 1 (State.resetWith cfgS (lines 1 0) 0) t) :=
  ⟨⟨{ start 0 with fsm := 12 }, by decide⟩, ⟨rfl, _, rfl⟩, by decide, reset_runs (by decide) rfl⟩
theorem witness_SuccessorOperations : decode (start 0).fsm = .ok .idle ∧ ∃ t, exec .idle (start 0) = .next t :=
  ⟨rfl, _, rfl⟩
theorem witness_RegisterWriters :
    (∃ t, exec .encode (encoding 23 0 false) = .next t) ∧ (∃ t, exec .idle (start 0) = .next t) ∧
    .encode ∉ [Instr.debounce, .scanSample, .scanEnd] ∧
    .encode ∉ [Instr.idle, .debounce, .scanDrive, .scanSample, .txLoad, .txSeg, .txEnd, .decideTx, .interframe] ∧
    .encode ∉ [Instr.idle, .scanSample] ∧ .encode ∉ [Instr.idle, .resolve] ∧ .encode ∉ [Instr.idle, .scanEnd] ∧
    .idle ∉ [Instr.encode, .decideTx] ∧ .encode ∉ [Instr.decideTx] ∧ .idle ∉ [Instr.encode] ∧
    .encode ∉ [Instr.txLoad, .txSeg, .txEnd] ∧ .encode ∉ [Instr.txLoad, .txSeg, .txEnd, .decideTx] ∧
    .encode ∉ [Instr.scanEnd, .resolve, .decideTx] :=
  ⟨⟨_, rfl⟩, ⟨_, rfl⟩, by decide⟩

/-! ### One operation each -/

theorem witness_IdleWaitsForAnEdge :
    (start 0).fsm = 0b0000 ∧ waking.edgeLatch = true ∧ (start 0).edgeLatch = false := by decide
theorem witness_DebounceDelays :
    ({ start 0 with fsm := 1 } : State).fsm = 0b0001 ∧ 1 < ({ start 0 with tmr := 2 } : State).tmr ∧
    ({ start 0 with tmr := 1 } : State).tmr ≤ 1 := by decide
theorem witness_ScanDriveSettles :
    (∃ s : State, s.fsm = 0b0010 ∧ s.row.toNat < 6) ∧ 1 < ({ start 0 with tmr := 2 } : State).tmr ∧
    ({ start 0 with tmr := 1 } : State).tmr ≤ 1 := ⟨⟨{ start 0 with fsm := 2, row := 5 }, by decide⟩, by decide⟩
theorem witness_ScanSampleAccumulates :
    (∃ s : State, s.fsm = 0b0011 ∧ s.row.toNat < 6 ∧ s.row.toNat = 5) ∧
    (∃ s : State, s.fsm = 0b0011 ∧ s.row.toNat < 6 ∧ s.row.toNat ≠ 5) :=
  ⟨⟨{ start 0 with fsm := 3, row := 5 }, by decide⟩, ⟨{ start 0 with fsm := 3, row := 4 }, by decide⟩⟩
theorem witness_ScanEndDecidesNoKey :
    (∃ s : State, s.fsm = 0b0100 ∧ s.raw = 0) ∧ ∃ s : State, s.fsm = 0b0100 ∧ s.raw ≠ 0 :=
  ⟨⟨{ start 0 with fsm := 4 }, by decide⟩, ⟨{ start 0 with fsm := 4, raw := 0x10 }, by decide⟩⟩
theorem witness_ResolveMatchesOrExits :
    ((resolving 0x30 0).fsm = 0b0101 ∧ lastMatch cfgS 0x30 = none) ∧
    (lastMatch cfgS 0x10 = some 0 ∧ (resolving 0x10 0).errNokey = false) ∧
    (lastMatch cfgS 0x85 = some 23 ∧ ({ resolving 0x85 0 with errNokey := true } : State).errNokey = true) := by decide
theorem witness_EncodePacksFrame :
    (encoding 0 0 false).fsm = 0b0110 ∧ (encoding 0 0 false).keyIdx.toNat < 24 ∧ (encoding 23 0 true).keyIdx.toNat < 24 := by
  decide
theorem witness_AddressMapping :
    cfgS.addrMode = .selector ∧ ({ cfgS with addrMode := .fixed } : Config).addrMode = .fixed ∧ cfgS.wf = true ∧
    (3 : BitVec 2).toNat = (3 : Fin 4).val := by decide
theorem witness_TxLoadStartsFrame : ({ start 0 with fsm := 7 } : State).fsm = 0b0111 := by decide
theorem witness_TxSegRunsSegments :
    (sending 0 0 false true 2 0).fsm = 0b1000 ∧ 1 < (sending 0 0 false true 2 0).tmr ∧
    ((sending 0 0 false true 1 0).tmr ≤ 1 ∧ (sending 0 0 false true 1 0).half = false) ∧
    ((sending 0 12 true true 1 0).tmr ≤ 1 ∧ (sending 0 12 true true 1 0).half = true ∧
      (sending 0 12 true true 1 0).bitcnt.toNat + 1 ≠ 14) ∧
    ((sending 0 13 true true 1 0).tmr ≤ 1 ∧ (sending 0 13 true true 1 0).half = true ∧
      (sending 0 13 true true 1 0).bitcnt.toNat + 1 = 14) := by decide
theorem witness_TxEndClears : ({ start 0 with fsm := 9 } : State).fsm = 0b1001 := by decide
theorem witness_DecideRetransmitsOrEnds :
    ((deciding false 0).fsm = 0b1010 ∧ (deciding false 0).edgeLatch = false) ∧
    ((deciding true 1).edgeLatch = true ∧ (deciding true 1).colIn ≠ 0) ∧
    ((deciding true 0).edgeLatch = true ∧ (deciding true 0).colIn = 0) := by decide
theorem witness_InterframeDelays :
    ({ start 0 with fsm := 11 } : State).fsm = 0b1011 ∧ 1 < ({ start 0 with tmr := 2 } : State).tmr ∧
    ({ start 0 with tmr := 1 } : State).tmr ≤ 1 := by decide

/-! ### States that meet the invariant -/

/-- The invariant does not mention the inputs to come. -/
theorem inv_of_other_inputs {s : State} (h : s.Inv) (l : List Input) : ({ s with stim := l } : State).Inv := by
  obtain ⟨b, i, hd, hi⟩ := h
  refine ⟨⟨b.config, b.timer, b.phase, b.key, b.rawColumns, b.rawNamesColumn, b.prevColumns⟩, i, hd, ?_⟩
  cases i <;> exact hi

/-- A press cycle in the transmit loop, about to send key 0's frame. -/
def looping (l : List Input) : State :=
  { State.resetWith cfgT l 0 with
    fsm := 7, raw := 0x10, keyIdx := 0, heldDown := true, frame := 0xC000, edgePol := .fall, colPrev := 0b0001 }

theorem looping_inv_nil : (looping []).Inv :=
  ⟨⟨by decide, by decide, by decide, .inl (by decide), by decide, fun _ => by decide, by decide⟩, .txLoad, rfl,
    ⟨⟨rfl, rfl, by decide, by decide, rfl, ⟨rfl, rfl⟩, fun _ => by decide⟩, rfl, 0, 0, by decide, by decide⟩, rfl,
    ⟨rfl, rfl, rfl, rfl, rfl⟩⟩

theorem looping_inv (l : List Input) : (looping l).Inv := inv_of_other_inputs looping_inv_nil l

/-- A press cycle in RESOLVE with key 0's code. -/
def resolved : State := { resolving 0x10 0b0001 with keyIdx := 31 }

theorem resolved_inv : resolved.Inv :=
  ⟨⟨by decide, by decide, by decide, .inr rfl, by decide, fun _ => by decide, by decide⟩, .resolve, rfl,
    ⟨rfl, rfl, rfl, ⟨rfl, rfl, rfl, rfl, rfl⟩⟩, rfl, rfl, ⟨rfl, rfl⟩, by decide, fun _ _ => by decide⟩

/-- A press cycle in ENCODE with key 0. -/
def packing : State := { resolving 0x10 0b0001 with fsm := 6, keyIdx := 0 }

theorem packing_inv : packing.Inv :=
  ⟨⟨by decide, by decide, by decide, .inl (by decide), by decide, fun _ => by decide, by decide⟩, .encode, rfl,
    ⟨rfl, rfl, by decide, by decide, rfl, ⟨rfl, rfl⟩, fun _ => by decide⟩, rfl, rfl, ⟨rfl, rfl, rfl, rfl, rfl⟩⟩

/-- IDLE with a latched press, under the fast configuration. -/
def woken (l : List Input) : State := { State.resetWith cfgT l 0 with edgeLatch := true, edgeEn := false }

theorem woken_inv_nil : (woken []).Inv :=
  ⟨⟨by decide, by decide, by decide, .inr rfl, by decide, fun h => absurd rfl h, by decide⟩, .idle, rfl,
    rfl, rfl, rfl, ⟨rfl, rfl, rfl, rfl, rfl⟩, rfl, rfl⟩

theorem woken_inv (l : List Input) : (woken l).Inv := inv_of_other_inputs woken_inv_nil l

/-! ### Whole-machine statements -/

theorem witness_KeyCodesResolve :
    (cfgS.wf = true ∧ (resolving 0x85 0).raw = cfgS.keyTable[23] ∧ (resolving 0x85 0).errNokey = false) ∧
    (∀ (i : Nat) (hi : i < 24), (resolving 0x30 0).raw ≠ cfgS.keyTable[i]) ∧
    (resolved.Inv ∧ decode resolved.fsm = .ok .resolve ∧ ∃ t, exec .resolve resolved = .next t) :=
  ⟨by decide, by decide, resolved_inv, rfl, _, rfl⟩
theorem witness_RomReads :
    23 < 24 ∧ 24 ≤ 24 ∧ 24 ≤ (encoding 24 0 false).keyIdx.toNat ∧ (packing.Inv ∧ decode packing.fsm = .ok .encode) :=
  ⟨by decide, by decide, by decide, packing_inv, rfl⟩
theorem witness_LastMatchIsLargestIndex : lastMatch cfgS 0x85 = some 23 ∧ lastMatch cfgS 0x30 = none := by decide
theorem witness_EdgeDetectorUpdate :
    (∃ s : State, s.edgeEn = true ∧ s.edgePol = .rise ∧ ∃ c < 4, s.colIn.getLsbD c = true ∧ s.colPrev.getLsbD c = false) ∧
    (∃ s : State, s.edgeEn = true ∧ s.edgePol = .fall ∧ ∃ c < 4, s.colPrev.getLsbD c = true ∧ s.colIn.getLsbD c = false) ∧
    (start 0).edgeFires = false ∧ (∃ t, exec .idle (start 0) = .next t) ∧ (start 0).edgeLatch = false ∧
    (resolved.errNokey = false ∧ lastMatch resolved.cfg resolved.raw ≠ none ∧ ∃ t, exec .resolve resolved = .next t) ∧
    ((deciding false 0).edgeLatch = false ∧ ∃ t, exec .decideTx (deciding false 0) = .next t) :=
  ⟨⟨start 0b1000, rfl, rfl, 3, by decide⟩,
    ⟨{ start 0 with edgePol := .fall, colPrev := 0b0001 }, rfl, rfl, 0, by decide⟩,
    by decide, ⟨_, rfl⟩, rfl, ⟨rfl, by decide, _, rfl⟩, rfl, _, rfl⟩
theorem witness_EntryIntoIdleArmsPress :
    (decode (deciding true 0).fsm = .ok .decideTx ∧
      ∃ t, exec .decideTx (deciding true 0) = .next t ∧ t.fsm = encode .idle) ∧
    ∃ s : State, s.edgePol = .rise ∧ s.colIn = 0b0010 ∧
      ∀ c < 4, s.colIn.getLsbD c = true → s.colPrev.getLsbD c = true :=
  ⟨⟨rfl, _, rfl, rfl⟩, { start 0b0010 with colPrev := 0b0110 }, by decide⟩
theorem witness_ReleaseArming :
    (∃ t, exec .scanEnd { start 0 with fsm := 4 } = .next t ∧ t.edgePol = .fall) ∧ (start 0).edgePol = .rise ∧
    ((deciding true 1).edgeLatch = true ∧ (deciding true 1).colIn ≠ 0 ∧
      ∃ t, exec .decideTx (deciding true 1) = .next t) :=
  ⟨⟨_, rfl, rfl⟩, rfl, rfl, by decide, _, rfl⟩
theorem witness_OneShotDetector :
    (waking.edgeEn = false ∧ waking.edgeLatch = true ∧ ∃ t, exec .idle waking = .next t ∧ t.edgeLatch = false) ∧
    ((deciding true 0).edgeEn = false ∧ ∃ t, exec .decideTx (deciding true 0) = .next t ∧ t.edgeEn = true) :=
  ⟨⟨rfl, rfl, _, rfl, rfl⟩, rfl, _, rfl, rfl⟩
theorem witness_RowDriveSelectsKeys :
    (∃ s : State, s.fsm.toNat = 3 ∧ s.row.toNat < 6 ∧ s.row.toNat = 5) ∧
    (∃ s : State, s.fsm.toNat = 2 ∧ s.row.toNat < 6) ∧ ∃ s : State, s.fsm.toNat ≠ 2 ∧ s.fsm.toNat ≠ 3 :=
  ⟨⟨{ start 0 with fsm := 3, row := 5 }, by decide⟩, ⟨{ start 0 with fsm := 2 }, by decide⟩, start 0, by decide⟩
theorem witness_OutputFunctions :
    decode (start 0).fsm = .ok .idle ∧ decode (sending 0 0 false true 1 0).fsm = .ok .txSeg ∧
    decode (deciding true 0).fsm = .ok .decideTx := by decide
theorem witness_ReservedCodeOutputs :
    12 ≤ ({ start 0 with fsm := 12 } : State).fsm.toNat ∧ 12 ≤ ({ start 0 with fsm := 15 } : State).fsm.toNat := by
  decide
theorem witness_ErrorFlagLifecycle : ∃ t, exec .scanEnd { start 0 with fsm := 4 } = .next t := ⟨_, rfl⟩
theorem witness_ToggleWriteAndRead :
    ((deciding true 0).cfg.wf = true ∧ ∃ t, step (deciding true 0) = .next t) ∧
    ∃ t, exec .decideTx (deciding true 0) = .next t :=
  ⟨⟨by decide, _, step_of_exec (i := .decideTx) (by decide) rfl rfl rfl⟩, _, rfl⟩
theorem witness_HeldDownIsObservableOnly : ∃ t, exec .encode (encoding 0 0 false) = .next t := ⟨_, rfl⟩
theorem witness_SelectorReadOnlyByEncode :
    ∃ a rest t, (start 0 3).stim = a :: rest ∧ exec .idle (start 0 3) = .next t := ⟨_, _, _, rfl, rfl⟩
theorem witness_EdgesNeverDisturbAWait :
    .debounce ∉ [Instr.idle, .scanSample, .resolve, .decideTx] ∧ (∃ t, exec .debounce (start 0) = .next t) ∧
    ({ start 0 with stim := [⟨false, 0b1111, 0⟩], edgeEn := false } : State).selIn = (start 0).selIn :=
  ⟨by decide, ⟨_, rfl⟩, rfl⟩
theorem witness_SleepEndsOnlyByItsEvent :
    (decode (start 0).fsm = .ok .idle ∧ (start 0).pwrState = .deep ∧ ∃ t, exec .idle (start 0) = .next t) ∧
    (∃ s t : State, s.pwrState = .light ∧ decode s.fsm = .ok .interframe ∧ exec .interframe s = .next t ∧
      t.fsm ≠ s.fsm ∧ s.tmr ≤ 1) ∧
    (∃ s t : State, s.pwrState = .active ∧ decode s.fsm = .ok .scanDrive ∧ exec .scanDrive s = .next t ∧ s.tmr = 1) ∧
    (∃ s t : State, s.pwrState = .active ∧ decode s.fsm = .ok .scanDrive ∧ exec .scanDrive s = .next t ∧ s.tmr = 2) ∧
    ∃ t : State, (deciding true 0).pwrState = .active ∧ decode (deciding true 0).fsm = .ok .decideTx ∧
      exec .decideTx (deciding true 0) = .next t :=
  ⟨⟨rfl, by decide, _, rfl⟩, ⟨{ start 0 with fsm := 11, tmr := 1 }, _, by decide, rfl, rfl, by decide, by decide⟩,
    ⟨{ start 0 with fsm := 2, tmr := 1 }, _, by decide, rfl, rfl, rfl⟩,
    ⟨{ start 0 with fsm := 2, tmr := 2 }, _, by decide, rfl, rfl, rfl⟩, _, by decide, rfl, rfl⟩
theorem witness_StepKeepsInvariant : (looping (lines 1 0)).Inv ∧ ∃ t, step (looping (lines 1 0)) = .next t :=
  ⟨looping_inv _, _, step_of_exec (i := .txLoad) (by decide) rfl rfl rfl⟩
theorem witness_ResetMeetsInvariant : cfgS.wf = true ∧ cfgT.wf = true := by decide
theorem witness_NoStopIsReachable : (woken []).Inv ∧ cfgT.wf = true := ⟨woken_inv _, by decide⟩

/-! ### Runs -/

theorem noReset_lines (s : State) (n m : Nat) (c : Cols) (h : s.stim = lines m c) (hn : n ≤ m) : s.noReset n := by
  intro k hk
  have e : s.stim.drop k = lines (m - k) c := by rw [h, lines, List.drop_replicate]; rfl
  obtain ⟨j, hj⟩ : ∃ j, m - k = j + 1 := ⟨m - k - 1, by omega⟩
  simp [State.inputAt, e, hj, lines, List.replicate_succ]

theorem witness_WaitLastsExactly :
    (∃ s : State, s.cfg.wf = true ∧ s.fsm = encode .debounce ∧ s.tmr = 1 ∧ s.noReset 1) ∧
    (∃ s : State, s.cfg.wf = true ∧ s.fsm = encode .scanDrive ∧ s.tmr = 2 ∧ s.noReset 2) ∧
    (∃ s : State, s.cfg.wf = true ∧ s.fsm = encode .interframe ∧ s.tmr = 7 ∧ s.noReset 7) ∧
    (∃ s : State, s.cfg.wf = true ∧ s.fsm = encode .txSeg ∧ s.tmr = 10 ∧ s.half = false ∧ s.noReset 10) ∧
    ∃ s : State, s.cfg.wf = true ∧ s.fsm = encode .txSeg ∧ s.tmr = 1 ∧ s.half = true ∧ s.noReset 1 :=
  ⟨⟨{ start 0 with fsm := 1, tmr := 1, stim := lines 10 0 }, by decide, rfl, rfl, noReset_lines _ _ _ _ rfl (by decide)⟩,
    ⟨{ start 0 with fsm := 2, tmr := 2, stim := lines 10 0 }, by decide, rfl, rfl, noReset_lines _ _ _ _ rfl (by decide)⟩,
    ⟨{ start 0 with fsm := 11, tmr := 7, stim := lines 10 0 }, by decide, rfl, rfl, noReset_lines _ _ _ _ rfl (by decide)⟩,
    ⟨{ sending 0 0 false true 10 0 with stim := lines 10 0 }, by decide, rfl, rfl, rfl, noReset_lines _ _ _ _ rfl (by decide)⟩,
    { sending 0 13 true true 1 0 with stim := lines 10 0 }, by decide, rfl, rfl, rfl, noReset_lines _ _ _ _ rfl (by decide)⟩
theorem witness_SweepBuildsScanCode :
    ∃ s : State, s.cfg.wf = true ∧ s.fsm = encode .idle ∧ s.edgeLatch = true ∧
      s.noReset (s.cfg.debounce + 6 * (s.cfg.rowSettle + 1) + 1 + 1) :=
  ⟨woken (lines 20 0), by decide, rfl, rfl, noReset_lines _ _ _ _ rfl (by decide)⟩
/-- The key at row 5, column 3, pressed in the SCAN_SAMPLE cycle of row 5 only, which is cycle 13. -/
def lastKeySampled : List Input := lines 13 0 ++ lines 1 0b1000 ++ lines 2 0

theorem witness_SingleKeyScanCode :
    5 < 6 ∧ 3 < (woken lastKeySampled).cfg.ncols ∧ (woken lastKeySampled).cfg.wf = true ∧
    (woken lastKeySampled).fsm = encode .idle ∧ (woken lastKeySampled).edgeLatch = true ∧
    (woken lastKeySampled).noReset (cfgT.debounce + 6 * (cfgT.rowSettle + 1) + 1 + 1) ∧
    ∀ r' < 6, (woken lastKeySampled).colAt (cfgT.debounce + (r' + 1) * (cfgT.rowSettle + 1)) =
      keyCols (onehot6 (BitVec.ofNat 3 r')) [(5, 3)] :=
  ⟨by decide, by decide, by decide, rfl, rfl, by unfold State.noReset; decide, by decide⟩
theorem witness_FrameTransmission :
    (looping (lines 30 1)).cfg.wf = true ∧ (looping (lines 30 1)).fsm = encode .txLoad ∧
    frameCycles cfgT 0xC000 + 2 = 30 ∧ (looping (lines 30 1)).noReset 30 :=
  ⟨by decide, rfl, by decide, noReset_lines _ _ _ _ rfl (by decide)⟩
theorem witness_FrameWaveform :
    (looping (lines 30 1)).cfg.wf = true ∧ (looping (lines 30 1)).fsm = encode .txLoad ∧
    (looping (lines 30 1)).noReset (frameCycles cfgT 0xC000 + 1) ∧ 1 < bitCycles cfgT true :=
  ⟨by decide, rfl, noReset_lines _ _ _ _ rfl (by decide), by decide⟩
/-- With the key held the first DECIDE finds no latch; released for good it finds the latch and no column. -/
theorem witness_RetransmissionSpacing :
    ((looping (lines 32 1)).cfg.wf = true ∧ (looping (lines 32 1)).fsm = encode .txLoad ∧
      (looping (lines 32 1)).noReset (frameCycles cfgT 0xC000 + 3 + 1) ∧
      ∃ t, Reaches (frameCycles cfgT 0xC000 + 2) (looping (lines 32 1)) t ∧ decide (t.edgeLatch = false) = true) ∧
    ((looping (lines 32 0)).cfg.wf = true ∧ (looping (lines 32 0)).fsm = encode .txLoad ∧
      (looping (lines 32 0)).noReset (frameCycles cfgT 0xC000 + 3 + 1) ∧
      ∃ t, Reaches (frameCycles cfgT 0xC000 + 2) (looping (lines 32 0)) t ∧
        decide (t.edgeLatch = true ∧ t.colIn = 0) = true) :=
  ⟨⟨by decide, rfl, noReset_lines _ _ _ _ rfl (by decide), reaches_of_stepsTo (by decide +kernel)⟩,
    by decide, rfl, noReset_lines _ _ _ _ rfl (by decide), reaches_of_stepsTo (by decide +kernel)⟩

/-- One row's sample shows column 0, in the SCAN_SAMPLE cycle of row 0 only. -/
def onePress : List Input := lines 3 0 ++ lines 1 1 ++ lines 14 0

theorem witness_PressSendsItsFrame :
    (woken onePress).Inv ∧ (woken onePress).fsm = encode .idle ∧ (woken onePress).edgeLatch = true ∧
    (woken onePress).noReset (cfgT.debounce + 6 * cfgT.rowSettle + 11) ∧
    sweepOr 0 (woken onePress).sweepSamples = cfgT.keyTable[0] ∧ ∃ c ∈ (woken onePress).sweepSamples, c ≠ 0 :=
  ⟨woken_inv _, rfl, rfl, by unfold State.noReset; decide, by decide, 1, by decide⟩
theorem witness_UnknownCodeSendsNothing :
    (∃ s : State, s.Inv ∧ s.fsm = encode .idle ∧ s.edgeLatch = true ∧ s.noReset (cfgT.debounce + 6 * (cfgT.rowSettle + 1) + 3) ∧
      sweepOr 0 s.sweepSamples = 0) ∧
    ∃ s : State, s.Inv ∧ s.fsm = encode .idle ∧ s.edgeLatch = true ∧ s.noReset (cfgT.debounce + 6 * (cfgT.rowSettle + 1) + 3) ∧
      ∀ (i : Nat) (hi : i < 24), sweepOr 0 s.sweepSamples ≠ s.cfg.keyTable[i] :=
  ⟨⟨woken (lines 16 0), woken_inv _, rfl, rfl, noReset_lines _ _ _ _ rfl (by decide), by decide⟩,
    woken (lines 16 0b0011), woken_inv _, rfl, rfl, noReset_lines _ _ _ _ rfl (by decide), by decide⟩
/-- `packing` under the fast configuration. -/
def packingFast (l : List Input) : State :=
  { State.resetWith cfgT l 0 with fsm := 6, raw := 0x10, keyIdx := 0, edgePol := .fall, colPrev := 0b0001 }

theorem packingFast_inv : (packingFast []).Inv :=
  ⟨⟨by decide, by decide, by decide, .inl (by decide), by decide, fun _ => by decide, by decide⟩, .encode, rfl,
    ⟨rfl, rfl, by decide, by decide, rfl, ⟨rfl, rfl⟩, fun _ => by decide⟩, rfl, rfl, ⟨rfl, rfl, rfl, rfl, rfl⟩⟩

theorem witness_EarlyReleaseSendsOneFrame :
    (packingFast (lines 32 0)).Inv ∧ (packingFast (lines 32 0)).fsm = encode .encode ∧
    memRead cfgT.funcTable (packingFast (lines 32 0)).keyIdx.toNat = some 0 ∧ frameOf cfgT 0 0 false = 0xC000 ∧
    (packingFast (lines 32 0)).selIn = 0 ∧ frameCycles cfgT 0xC000 + 4 = 32 ∧
    (packingFast (lines 32 0)).noReset 32 ∧ ∀ k < 32, (packingFast (lines 32 0)).colAt k = 0 :=
  ⟨inv_of_other_inputs packingFast_inv _, rfl, by decide, by decide, rfl, by decide,
    noReset_lines _ _ _ _ rfl (by decide), by decide⟩
theorem witness_ReleaseEndsPressCycle :
    (looping (lines 33 0)).Inv ∧ (looping (lines 33 0)).heldDown = true ∧ frameCycles cfgT 0xC000 + cfgT.interframe + 4 = 33 ∧
    (looping (lines 33 0)).noReset 33 ∧ ∀ k < 33, (looping (lines 33 0)).colAt k = 0 :=
  ⟨looping_inv _, rfl, by decide, noReset_lines _ _ _ _ rfl (by decide), by decide⟩
theorem witness_KeyHeldThroughReset :
    cfgS.wf = true ∧ (State.resetWith cfgS (lines 2 1) 0).noReset 2 ∧ (State.resetWith cfgS (lines 2 1) 0).colIn ≠ 0 :=
  ⟨by decide, noReset_lines _ _ _ _ rfl (by decide), by decide⟩

end Sys2Proof.Tests
end

section
/-! The configurations that rule R7 admits: each check of `Config.wf` decides its condition of `Config.Admitted`. -/
namespace Sys2Proof.Config

theorem keysDistinct_iff (c : Config) :
    c.keysDistinct = true ↔ ∀ i j : Fin 24, i ≠ j → c.keyTable[i] ≠ c.keyTable[j] := by
  rw [keysDistinct, decide_eq_true_eq, List.Nodup, List.pairwise_iff_getElem]
  simp only [Vector.length_toList, Vector.getElem_toList]
  constructor
  · intro h i j hij
    rcases Fin.lt_or_lt_of_ne hij with hlt | hlt
    · exact h i j i.isLt j.isLt hlt
    · exact (h j i j.isLt i.isLt hlt).symm
  · intro h i j hi hj hlt
    exact h ⟨i, hi⟩ ⟨j, hj⟩ (Fin.ne_of_lt hlt)

theorem payloadsSixBit_iff (c : Config) :
    c.payloadsSixBit = true ↔ ∀ i : Fin 24, c.funcTable[i].toNat < 64 := by
  simp only [payloadsSixBit, List.all_eq_true, decide_eq_true_eq, Vector.mem_toList_iff]
  constructor
  · exact fun h i => h _ (Vector.getElem_mem i.isLt)
  · intro h b hb
    obtain ⟨i, hi, rfl⟩ := Vector.getElem_of_mem hb
    exact h ⟨i, hi⟩

theorem durationsPositive_iff (c : Config) :
    c.durationsPositive = true ↔
      ∀ d ∈ [c.t1Off, c.t1On, c.t0On, c.t0Off, c.debounce, c.interframe, c.rowSettle], 1 ≤ d := by
  simp [durationsPositive]

theorem timerWideEnough_iff (c : Config) :
    c.timerWideEnough = true ↔
      ∀ d ∈ [c.t1Off, c.t1On * c.carPeriod, c.t0On * c.carPeriod, c.t0Off, c.debounce, c.interframe, c.rowSettle],
        d < 2 ^ c.tmrW := by
  simp [timerWideEnough]

/-- The check compares neighbours only; equality is transitive. -/
theorem fixedAddressEqual_iff (c : Config) :
    c.fixedAddressEqual = true ↔ (c.addrMode = .fixed → ∀ i j : Fin 4, c.addrMap[i] = c.addrMap[j]) := by
  cases hm : c.addrMode with
  | selector => simp [fixedAddressEqual, hm]
  | fixed =>
    simp only [fixedAddressEqual, hm, decide_eq_true_eq, true_implies]
    constructor
    · rintro ⟨h01, h12, h23⟩
      have toFirst : ∀ i : Fin 4, c.addrMap[i] = c.addrMap[0] := by
        intro i
        fin_cases i
        · rfl
        · exact h01.symm
        · exact (h01.trans h12).symm
        · exact (h01.trans (h12.trans h23)).symm
      exact fun i j => (toFirst i).trans (toFirst j).symm
    · exact fun h => ⟨h 0 1, h 1 2, h 2 3⟩

/-- The checks of the model decide exactly rule R7's list. -/
theorem wf_iff_admitted (c : Config) : c.wf = true ↔ c.Admitted := by
  simp only [wf, Bool.and_eq_true, and_assoc, keysDistinct_iff, payloadsSixBit_iff, durationsPositive_iff,
    timerWideEnough_iff, fixedAddressEqual_iff, ncolsInRange, carrierInRange, shiftInRange, decide_eq_true_eq,
    Admitted]

end Sys2Proof.Config
end

section
/-! Refusals: no operation answers one, and a step answers one only before it looks at anything but the
configuration. -/
namespace Sys2Proof.Machine

theorem exec_ne_refused (i : Instr) (s : State) (r : Refusal) : exec i s ≠ .refused r := by
  rcases exec_next_or_romIndex i s with ⟨t, h⟩ | ⟨-, -, h⟩ <;> simp [h]

theorem endCycle_eq_refused {o : Host.Outcome State Fault Refusal} {r : Refusal} :
    endCycle o = .refused r ↔ o = .refused r := by
  cases o <;> simp [endCycle]

theorem step_of_not_wf {s : State} (h : ¬s.cfg.wf = true) : step s = .refused .illFormedConfig := if_neg h

theorem step_ne_refused_of_wf {s : State} (h : s.cfg.wf = true) (r : Refusal) : step s ≠ .refused r := by
  unfold step
  rw [if_pos h]
  split
  · simp
  · split
    next i _ => exact fun he => exec_ne_refused i s r (endCycle_eq_refused.mp he)
    next => simp [illegalState]

/-- Settles O6: the step tests `Config.wf` first, which decides R7's list, and past it no cycle answers a refusal. -/
theorem illFormedConfigurationRefused : Obligations.IllFormedConfigurationRefused := by
  intro s
  simp only [← Config.wf_iff_admitted]
  exact ⟨⟨fun h hw => step_ne_refused_of_wf hw _ h, step_of_not_wf⟩, step_ne_refused_of_wf⟩

end Sys2Proof.Machine
end

section
/-! Decoder and encoder as one fact, and the output ports in terms of the operation (10_state.md rules R28, R29). -/
namespace Sys2Proof

/-- The code of an operation is the only one that decodes to it. -/
theorem decode_eq_ok_iff {c : Code} {i : Instr} : decode c = .ok i ↔ c = encode i := by
  revert c
  cases i <;> decide

theorem encode_inj {i j : Instr} : encode i = encode j ↔ i = j := by
  rw [← decode_eq_ok_iff, decode_eq_ok_iff.mpr rfl, Except.ok.injEq]

namespace Machine

theorem irOut_eq_true_iff (s : State) :
    s.irOut = true ↔ s.fsm = encode .txSeg ∧ s.segOn = true ∧ s.carPhase < s.cfg.carHigh := by
  simp [State.irOut, and_assoc]

theorem pwrState_of_op {s : State} {i : Instr} (h : s.fsm = encode i) :
    s.pwrState = if i = .idle then .deep else if i = .debounce ∨ i = .txSeg ∨ i = .interframe then .light
      else .active := by
  simp only [State.pwrState, h, encode_inj]

theorem pwrCode_ne_three (p : PwrState) : pwrCode p ≠ 3 := by cases p <;> decide

/-- Settles O33: the emitter and the power state are functions of the operation that `fsm` encodes. -/
theorem outputFunctions : Obligations.OutputFunctions := by
  intro s
  refine ⟨?_, fun i hd => ?_, rfl, rfl, rfl, pwrCode_ne_three s.pwrState, rfl, rfl, rfl⟩
  · have code : s.fsm = encode .txSeg ↔ s.fsm.toNat = 8 := BitVec.toNat_inj.symm
    rw [irOut_eq_true_iff, code]
  · rw [pwrState_of_op (decode_eq_ok_iff.mp hd)]
    cases i <;> decide

end Machine
end Sys2Proof
end

section
/-! The flags (10_state.md rules R20 to R22): what each operation leaves in them, and which operations read
`held_down` and `toggle`. -/
namespace Sys2Proof.Machine

/-! ### The three outcomes of DECIDE (rule R79) -/

theorem exec_decideTx_of_noLatch {s : State} (hl : s.edgeLatch = false) :
    exec .decideTx s = .next s.edgeUpdate.retransmit := by
  simp [exec, execDecide, hl]

theorem exec_decideTx_of_column {s : State} (hl : s.edgeLatch = true) (hc : s.colIn ≠ 0) :
    exec .decideTx s = .next (s.edgeUpdate.armRelease s.colIn).retransmit := by
  simp only [exec, execDecide, hl, if_pos hc, Bool.not_true, Bool.false_eq_true, if_false]

theorem exec_decideTx_of_release {s : State} (hl : s.edgeLatch = true) (hc : s.colIn = 0) :
    exec .decideTx s = .next (s.edgeUpdate.endTransmit s.colIn) := by
  simp [exec, execDecide, hl, hc]

/-! ### Who writes the flags -/

/-- Every operation's effect on the four flags. -/
theorem exec_flags {i : Instr} {s t : State} (h : exec i s = .next t) :
    t.errNokey = (if i = .idle ∧ s.edgeLatch = true then false
      else if i = .scanEnd ∧ s.raw = 0 then true else s.errNokey) ∧
    t.errNomatch = (if i = .idle ∧ s.edgeLatch = true then false
      else if i = .resolve ∧ lastMatch s.cfg s.raw = none then true else s.errNomatch) ∧
    t.heldDown = (if i = .encode then true
      else if i = .decideTx ∧ s.edgeLatch = true ∧ s.colIn = 0 then false else s.heldDown) ∧
    t.toggle = (if i = .decideTx ∧ s.edgeLatch = true ∧ s.colIn = 0 then !s.toggle else s.toggle) := by
  cases i
  case idle =>
    cases h
    cases hl : s.edgeLatch <;> simp
  case scanEnd =>
    cases h
    simp
  case resolve =>
    cases h
    cases hm : lastMatch s.cfg s.raw with
    | none => simp
    | some m => cases hk : s.errNokey <;> simp [hk]
  case encode =>
    simp only [exec, execEncode] at h
    split at h
    · cases h
    · cases h; simp
  case decideTx =>
    cases hl : s.edgeLatch
    · rw [exec_decideTx_of_noLatch hl] at h
      cases h
      simp
    · by_cases hc : s.colIn = 0
      · rw [exec_decideTx_of_release hl hc] at h
        cases h
        simp [hc]
      · rw [exec_decideTx_of_column hl hc] at h
        cases h
        simp [show s.colIn ≠ 0#4 from hc]
  case txSeg =>
    cases h
    rcases wait_cases s _ _ with ⟨_, e⟩ | ⟨_, e⟩ <;> rw [e]
    · simp
    · split
      · split <;> simp
      · simp
  case debounce | scanDrive | interframe =>
    cases h
    rcases wait_cases s _ _ with ⟨_, e⟩ | ⟨_, e⟩ <;> rw [e] <;> simp
  case scanSample =>
    cases h
    split <;> simp
  case txLoad | txEnd =>
    cases h
    simp

/-- A press cycle in RESOLVE after an empty sweep: NoKey is raised, and no table entry is 0. -/
def resolvingNoKey : State :=
  { State.resetWith Config.nominal [⟨false, 0, 0⟩] 0 with fsm := encode .resolve, errNokey := true, edgePol := .fall }

theorem resolvingNoKey_inv : resolvingNoKey.Inv where
  left :=
    { config := by decide
      timer := by decide
      phase := by decide
      key := .inr rfl
      rawColumns := by decide
      rawNamesColumn := fun h => absurd rfl h
      prevColumns := by decide }
  right := ⟨.resolve, rfl, ⟨rfl, rfl, rfl, rfl, rfl, rfl, rfl, rfl⟩, rfl, rfl, ⟨rfl, rfl⟩, by decide,
    fun h => absurd rfl h⟩

/-- Settles O35: the effect on the error flags, and RESOLVE after an empty sweep as the case where both are raised. -/
theorem errorFlagLifecycle : Obligations.ErrorFlagLifecycle := by
  refine ⟨fun i s t h => ?_, resolvingNoKey, _, resolvingNoKey_inv, rfl, rfl, by decide⟩
  obtain ⟨hk, hm, -, -⟩ := exec_flags h
  exact ⟨hk, hm⟩

/-! ### Who reads TransFlags -/

/-- `s` with other values in TransFlags. -/
def State.withTransFlags (held tog : Bool) (s : State) : State := { s with heldDown := held, toggle := tog }

/-- TransFlags reach no other register, but for the toggle that ENCODE packs: with other values in them an operation
answers the same state but for TransFlags. What it leaves in these, `exec_flags` says. -/
theorem exec_withTransFlags {i : Instr} {s t : State} (held tog : Bool) (hi : i = .encode → tog = s.toggle)
    (h : exec i s = .next t) :
    ∃ held' tog', exec i (s.withTransFlags held tog) = .next (t.withTransFlags held' tog') := by
  cases i
  case encode =>
    obtain rfl := hi rfl
    simp only [exec, execEncode] at h
    split at h
    · cases h
    next payload hm =>
      cases h
      refine ⟨true, s.toggle, ?_⟩
      have hm' : memRead (s.withTransFlags held s.toggle).cfg.funcTable
          (s.withTransFlags held s.toggle).keyIdx.toNat = some payload := hm
      simp only [exec, execEncode, hm']
      rfl
  case decideTx =>
    cases hl : s.edgeLatch
    · rw [exec_decideTx_of_noLatch hl] at h
      cases h
      exact ⟨held, tog, exec_decideTx_of_noLatch hl⟩
    · by_cases hc : s.colIn = 0
      · rw [exec_decideTx_of_release hl hc] at h
        cases h
        exact ⟨false, !tog, exec_decideTx_of_release hl hc⟩
      · rw [exec_decideTx_of_column hl hc] at h
        cases h
        exact ⟨held, tog, exec_decideTx_of_column hl hc⟩
  case scanEnd | txLoad | txEnd =>
    cases h
    exact ⟨held, tog, rfl⟩
  case resolve =>
    have hm : lastMatch (s.withTransFlags held tog).cfg (s.withTransFlags held tog).raw = lastMatch s.cfg s.raw := rfl
    refine ⟨held, tog, ?_⟩
    simp only [exec, execResolve, hm] at h ⊢
    cases h
    cases lastMatch s.cfg s.raw with
    | none => rfl
    | some m =>
      simp only [apply_ite (State.withTransFlags held tog)]
      rfl
  case idle | debounce | scanDrive | scanSample | txSeg | interframe =>
    cases h
    refine ⟨held, tog, ?_⟩
    simp only [exec, execIdle, execDebounce, execScanDrive, execScanSample, execTxSeg, execInterframe, wait,
      apply_ite (State.withTransFlags held tog)]
    rfl

/-- Settles O36: the flip is ENDTRANSMIT's alone, and no operation but ENCODE lets `toggle` reach another register. -/
theorem toggleWriteAndRead : Obligations.ToggleWriteAndRead := by
  refine ⟨fun s t _ h => ?_, fun i s t b hi h => ?_⟩
  · obtain ⟨-, ⟨hr, rfl⟩ | ⟨hr, i, u, hd, hx, rfl⟩⟩ := step_cases h
    · rw [if_pos hr]; rfl
    · obtain ⟨-, -, -, ht⟩ := exec_flags hx
      have hi : s.fsm = encode .decideTx ↔ i = .decideTx := by rw [decode_eq_ok_iff.mp hd, encode_inj]
      simp only [State.advance_toggle, ht, hr, hi, Bool.false_eq_true, if_false]
  · obtain ⟨held', tog', h'⟩ := exec_withTransFlags s.heldDown b (fun he => absurd he hi) h
    obtain ⟨-, -, held, tog⟩ := exec_flags h
    obtain ⟨-, -, sameHeld, newTog⟩ := exec_flags h'
    have hh : held' = t.heldDown := sameHeld.trans held.symm
    have ht : tog' = if t.toggle = s.toggle then b else !b := by
      refine newTog.trans ?_
      rw [tog]
      change (if i = .decideTx ∧ s.edgeLatch = true ∧ s.colIn = 0 then !b else b) = _
      split <;> simp
    rw [hh, ht] at h'
    exact h'

/-- Settles O37: with another `held_down` in it an operation leaves the same `toggle`, so it differs in `held_down`
alone. -/
theorem heldDownIsObservableOnly : Obligations.HeldDownIsObservableOnly := by
  refine ⟨fun i s t h => ?_, fun i s t b h => ?_⟩
  · obtain ⟨-, -, hh, -⟩ := exec_flags h
    exact hh
  · obtain ⟨held', tog', h'⟩ := exec_withTransFlags b s.toggle (fun _ => rfl) h
    obtain ⟨-, -, -, tog⟩ := exec_flags h
    obtain ⟨-, -, -, sameTog⟩ := exec_flags h'
    have ht : tog' = t.toggle := sameTog.trans tog.symm
    rw [ht] at h'
    exact ⟨held', h'⟩

end Sys2Proof.Machine
end

section
/-! The waits (10_state.md rule R17, 60_exceptions.md rule R91): how a wait runs down, and what ends it. -/
namespace Sys2Proof.Machine

/-- The operations that wait for the timer. -/
def waitingOps : List Instr := [.debounce, .scanDrive, .txSeg, .interframe]

/-- Each of them is the shared wait, around a state with the operation and the place in the bit of `s`. -/
theorem exec_eq_wait {i : Instr} (hi : i ∈ waitingOps) (s : State) :
    ∃ n e, exec i s = .next (wait s n e) ∧ n.fsm = s.fsm ∧ n.half = s.half ∧ n.bitcnt = s.bitcnt := by
  simp only [waitingOps, List.mem_cons, List.not_mem_nil, or_false] at hi
  rcases hi with rfl | rfl | rfl | rfl <;> exact ⟨_, _, rfl, rfl, rfl, rfl⟩

/-- `t` is `k` cycles into a wait of operation `i` that has lasted since `s`. -/
structure WaitedFor (k : Nat) (i : Instr) (s t : State) : Prop where
  reaches : Reaches k s t
  fsm : t.fsm = encode i
  tmr : t.tmr = s.tmr - k
  half : t.half = s.half
  bitcnt : t.bitcnt = s.bitcnt
  trace : opTrace k s = List.replicate k i

/-- While the timer has not expired, a wait goes on. -/
theorem exists_waitedFor {i : Instr} (hi : i ∈ waitingOps) {k : Nat} {s : State} (hc : s.cfg.wf = true)
    (hf : s.fsm = encode i) (hr : s.noReset k) (hk : k < s.tmr) : ∃ t, WaitedFor k i s t := by
  induction k generalizing s with
  | zero => exact ⟨s, rfl, hf, rfl, rfl, rfl, rfl⟩
  | succ k ih =>
    obtain ⟨n, e, hx, nfsm, nhalf, nbit⟩ := exec_eq_wait hi s
    rw [wait_counts (by omega)] at hx
    have hd := decode_eq_ok_iff.mpr hf
    have hstep := step_of_exec hc (noReset_now hr) hd hx
    have hrun := reaches_one hstep
    obtain ⟨t, w⟩ := ih (s := (n.loadTmr (s.tmr - 1)).advance)
      ((congrArg Config.wf (reaches_keeps_environment hrun).1).trans hc) (nfsm.trans hf)
      (noReset_after hrun (by rwa [Nat.add_comm])) (by simp; omega)
    exact ⟨t, reaches_succ.mpr ⟨_, hstep, w.reaches⟩, w.fsm, by rw [w.tmr]; simp; omega, w.half.trans nhalf,
      w.bitcnt.trans nbit, by rw [opTrace_succ hd hstep, w.trace]; rfl⟩

/-- A wait ends in the cycle with `tmr = 1`, after as many cycles as the timer held at its start. -/
theorem wait_ends {i : Instr} (hi : i ∈ waitingOps) {s : State} (hc : s.cfg.wf = true) (hf : s.fsm = encode i)
    (hn : 1 ≤ s.tmr) (hr : s.noReset s.tmr) :
    ∃ t u, WaitedFor (s.tmr - 1) i s t ∧ exec i t = .next u ∧ Reaches s.tmr s u.advance ∧
      opTrace s.tmr s = List.replicate s.tmr i := by
  obtain ⟨m, hm⟩ : ∃ m, s.tmr = m + 1 := ⟨s.tmr - 1, by omega⟩
  rw [hm] at hr
  obtain ⟨t, w⟩ := exists_waitedFor hi hc hf (noReset_mono hr (Nat.le_succ m)) (by omega)
  obtain ⟨n, e, hx, -⟩ := exec_eq_wait hi t
  have hd := decode_eq_ok_iff.mpr w.fsm
  have hstep := step_of_exec ((congrArg Config.wf (reaches_keeps_environment w.reaches).1).trans hc)
    (noReset_now (noReset_after w.reaches hr)) hd hx
  refine ⟨t, _, by rwa [hm], hx, by rw [hm]; exact reaches_trans w.reaches (reaches_one hstep), ?_⟩
  rw [hm, opTrace_append w.reaches (by rw [w.trace, List.length_replicate]), w.trace, opTrace_succ hd hstep,
    List.replicate_succ']
  rfl

/-- Where a wait that ends by a change of operation leads. -/
def waitSuccessors : List (Instr × Instr) := [(.debounce, .scanDrive), (.scanDrive, .scanSample), (.interframe, .txLoad)]

theorem mem_waitingOps_of_mem_waitSuccessors {i j : Instr} (h : (i, j) ∈ waitSuccessors) : i ∈ waitingOps := by
  revert h
  cases i <;> cases j <;> decide

theorem exec_expired {i j : Instr} (hij : (i, j) ∈ waitSuccessors) {s u : State} (h : s.tmr ≤ 1)
    (hx : exec i s = .next u) : u.fsm = encode j := by
  simp only [waitSuccessors, List.mem_cons, Prod.mk.injEq, List.not_mem_nil, or_false] at hij
  rcases hij with ⟨rfl, rfl⟩ | ⟨rfl, rfl⟩ | ⟨rfl, rfl⟩
  all_goals
    cases hx
    rw [wait_expires h]
    rfl

/-- The first segment of a bit is followed by the second (rule R74). -/
theorem exec_txSeg_ends_first {s u : State} (h : s.tmr ≤ 1) (hx : exec .txSeg s = .next u) (hh : s.half = false) :
    u.half = true ∧ u.bitcnt = s.bitcnt := by
  cases hx
  simp [wait_expires h, hh]

/-- The second segment of a bit completes it (rule R74). -/
theorem exec_txSeg_ends_second {s u : State} (h : s.tmr ≤ 1) (hx : exec .txSeg s = .next u) (hh : s.half = true) :
    u.bitcnt = s.bitcnt + 1 := by
  cases hx
  rw [wait_expires h, if_pos hh]
  split <;> rfl

/-- Settles O41: the wait runs down one by one, and its last cycle is the operation's expiry branch. -/
theorem waitLastsExactly : Obligations.WaitLastsExactly := by
  constructor
  · rintro s i j _ hij hc hf rfl hn hr
    have hi := mem_waitingOps_of_mem_waitSuccessors hij
    refine ⟨fun k hk => ?_, ?_⟩
    · obtain ⟨t, w⟩ := exists_waitedFor hi hc hf (noReset_mono hr hk.le) hk
      exact ⟨t, w.reaches, w.fsm, w.tmr⟩
    · obtain ⟨t, u, w, hx, hu, htr⟩ := wait_ends hi hc hf hn hr
      have ht : t.tmr ≤ 1 := by rw [w.tmr]; omega
      have hj : u.fsm = encode j := exec_expired hij ht hx
      exact ⟨u.advance, hu, hj, htr⟩
  · rintro s _ hc hf rfl hn hr
    have hi : Instr.txSeg ∈ waitingOps := by decide
    refine ⟨fun k hk => ?_, ?_⟩
    · obtain ⟨t, w⟩ := exists_waitedFor hi hc hf (noReset_mono hr hk.le) hk
      exact ⟨t, w.reaches, w.fsm, w.tmr, w.half, w.bitcnt⟩
    · obtain ⟨t, u, w, hx, hu, htr⟩ := wait_ends hi hc hf hn hr
      have ht : t.tmr ≤ 1 := by rw [w.tmr]; omega
      refine ⟨u.advance, hu, htr, fun hh => ?_, fun hh => ?_⟩
      · obtain ⟨uhalf, ubit⟩ := exec_txSeg_ends_first ht hx (w.half.trans hh)
        exact ⟨uhalf, ubit.trans w.bitcnt⟩
      · exact (exec_txSeg_ends_second ht hx (w.half.trans hh)).trans (by rw [w.bitcnt])

end Sys2Proof.Machine
end

section
/-! The two code tables of 30_encoding.md: the operation codes with the reserved ones (rules R46 to R48), and the error
status (rule R52). -/
namespace Sys2Proof

theorem decode_encode (i : Instr) : decode (encode i) = .ok i := decode_eq_ok_iff.mpr rfl

/-- Exactly the codes from 12 on are rejected, by name (rules R47, R48). -/
theorem decode_eq_reserved_iff {c : Code} : decode c = .error (.reserved c) ↔ 12 ≤ c.toNat := by
  revert c
  decide

/-- Settles O1: each word of the table is the code of its operation, and the decoder rejects every code above them. -/
theorem operationCodes : Obligations.OperationCodes :=
  ⟨decode_encode .idle, decode_encode .debounce, decode_encode .scanDrive, decode_encode .scanSample,
    decode_encode .scanEnd, decode_encode .resolve, decode_encode .encode, decode_encode .txLoad,
    decode_encode .txSeg, decode_encode .txEnd, decode_encode .decideTx, decode_encode .interframe,
    fun _ => decode_eq_reserved_iff.mpr⟩

namespace Machine

/-- ERR determines both flags, as a concatenation of two bits does its parts (rule R52). -/
theorem err_eq_append_iff (s : State) (m k : Bool) :
    s.err = BitVec.ofBool m ++ BitVec.ofBool k ↔ s.errNokey = k ∧ s.errNomatch = m := by
  have bits_inj : ∀ a b c d : Bool,
      BitVec.ofBool a ++ BitVec.ofBool b = BitVec.ofBool c ++ BitVec.ofBool d ↔ b = d ∧ a = c := by decide
  exact bits_inj s.errNomatch s.errNokey m k

/-- Settles O34: each value of the table is the concatenation of its row's flags. -/
theorem errorStatusCode : Obligations.ErrorStatusCode := fun s =>
  ⟨err_eq_append_iff s false false, err_eq_append_iff s false true, err_eq_append_iff s true false,
    err_eq_append_iff s true true⟩

end Machine
end Sys2Proof
end

section
/-! The scan family (40_scan.md): the outputs of its operations, then each operation's branches. -/
namespace Sys2Proof.Machine

/-! ### Outputs in terms of the operation (10_state.md rules R27, R28) -/

theorem rowDrive_of_op {s : State} {i : Instr} (h : s.fsm = encode i) :
    s.rowDrive = if i = .scanDrive ∨ i = .scanSample then onehot6 s.row else 0b111111#6 := by
  simp only [State.rowDrive, h, encode_inj]

/-- The emitter is off outside TX_SEG. -/
theorem irOut_of_op_ne_txSeg {s : State} {i : Instr} (h : s.fsm = encode i) (hi : i ≠ .txSeg) : s.irOut = false := by
  have hf : s.fsm ≠ encode .txSeg := by rwa [h, Ne, encode_inj]
  exact Bool.eq_false_iff.mpr fun ht => hf ((irOut_eq_true_iff s).mp ht).1

/-- Line r is driven for row r and for no other row, 6 and 7 included. -/
theorem onehot6_getLsbD (row : RowNum) : ∀ r < 6, (onehot6 row).getLsbD r = decide (r = row.toNat) := by
  revert row
  decide

/-- While a row is scanned, only its line is driven. -/
theorem scanning_outputs {s : State} {i : Instr} (h : s.fsm = encode i) (hi : i = .scanDrive ∨ i = .scanSample) :
    (∀ r < 6, s.rowDrive.getLsbD r = decide (r = s.row.toNat)) ∧ s.irOut = false ∧ s.pwrState = .active := by
  have hrow : s.rowDrive = onehot6 s.row := (rowDrive_of_op h).trans (if_pos hi)
  refine ⟨hrow ▸ onehot6_getLsbD s.row, irOut_of_op_ne_txSeg h ?_, (pwrState_of_op h).trans ?_⟩ <;>
    rcases hi with rfl | rfl <;> decide

/-! ### IDLE, DEBOUNCE, SCAN_DRIVE (rules R57 to R59) -/

/-- Settles O10: the latch selects the branch, and the waking branch overwrites the latch that the detector updated. -/
theorem idleWaitsForAnEdge : Obligations.IdleWaitsForAnEdge := by
  refine ⟨rfl, fun s => ⟨fun hf => ?_, fun hl => ?_, fun hl => ?_⟩⟩
  · have op : s.fsm = encode .idle := hf
    exact ⟨rowDrive_of_op op, irOut_of_op_ne_txSeg op (by decide), pwrState_of_op op⟩
  · exact congrArg Host.Outcome.next (if_pos hl)
  · exact congrArg Host.Outcome.next (if_neg (by simp [hl]))

/-- Settles O11: the shared wait, with the start of the sweep as its expiry. -/
theorem debounceDelays : Obligations.DebounceDelays := by
  refine ⟨rfl, fun s => ⟨fun hf => ?_, fun ht => ?_, fun ht => ?_⟩⟩
  · have op : s.fsm = encode .debounce := hf
    exact ⟨rowDrive_of_op op, irOut_of_op_ne_txSeg op (by decide), pwrState_of_op op⟩
  · exact congrArg Host.Outcome.next (wait_counts ht)
  · exact congrArg Host.Outcome.next (wait_expires ht)

/-- Settles O12: the shared wait, with the sample of the driven row as its expiry. -/
theorem scanDriveSettles : Obligations.ScanDriveSettles := by
  refine ⟨rfl, fun s => ⟨fun hf _ => scanning_outputs (i := .scanDrive) hf (.inl rfl), fun ht => ?_, fun ht => ?_⟩⟩
  · exact congrArg Host.Outcome.next (wait_counts ht)
  · exact congrArg Host.Outcome.next (wait_expires ht)

/-! ### SCAN_SAMPLE (rule R61) -/

theorem rowCode_eq_ofNat (r : RowNum) : rowCode r = BitVec.ofNat 8 r.toNat := (BitVec.ofNat_toNat 8 r).symm

/-- The shift by `COL_SHIFT` is a multiplication by 16: four column bits fit above the row field. -/
theorem colField_eq_ofNat (c : Cols) : colField c = BitVec.ofNat 8 (16 * c.toNat) := by
  revert c
  decide

theorem accumulate_eq_ofNat (raw : Byte) (r : RowNum) (c : Cols) :
    accumulate raw r c = if c = 0 then raw
      else raw ||| BitVec.ofNat 8 r.toNat ||| BitVec.ofNat 8 (16 * c.toNat) := by
  rw [← rowCode_eq_ofNat, ← colField_eq_ofNat, accumulate, ite_not]

/-- Settles O13: the new `raw` is the model's accumulated one, and row 5 is the last. -/
theorem scanSampleAccumulates : Obligations.ScanSampleAccumulates := by
  refine ⟨rfl, fun s => ⟨fun hf _ => scanning_outputs (i := .scanSample) hf (.inr rfl), fun raw' hraw => ?_⟩⟩
  obtain rfl : raw' = accumulate s.raw s.row s.colIn := hraw.trans (accumulate_eq_ofNat s.raw s.row s.colIn).symm
  constructor <;> intro hrow
  · exact congrArg Host.Outcome.next (if_pos hrow)
  · exact congrArg Host.Outcome.next (if_neg hrow)

/-! ### SCAN_END (rule R62) -/

theorem colMask_getLsbD (n : Nat) {c : Nat} (hc : c < 4) : (colMask n).getLsbD c = decide (c < n) := by
  simp only [colMask, BitVec.getLsbD_ofNat, hc, Nat.testBit_two_pow_sub_one, decide_true, Bool.true_and]

theorem rawCols_getLsbD (n : Nat) (raw : Byte) {c : Nat} (hc : c < 4) :
    (rawCols n raw).getLsbD c = (decide (c < n) && raw.getLsbD (4 + c)) := by
  simp only [rawCols, BitVec.getLsbD_and, BitVec.getLsbD_extractLsb', colMask_getLsbD n hc, hc, decide_true,
    Bool.true_and, Bool.and_comm]

/-- The detector's own update is overwritten whole: arming writes all four of its registers. -/
theorem exec_scanEnd (s : State) :
    exec .scanEnd s = .next { s with
      errNokey := if decide (s.raw = 0) then true else s.errNokey, edgeEn := true, edgePol := .fall,
      edgeLatch := false, colPrev := rawCols s.cfg.ncols s.raw, row := 0, fsm := encode .resolve } := rfl

/-- Settles O14: the baseline is the COLS field of `raw`, and the test of `raw` against 0 selects NoKey. -/
theorem scanEndDecidesNoKey : Obligations.ScanEndDecidesNoKey := by
  refine ⟨rfl, fun s => ⟨fun hf => ?_, rawCols s.cfg.ncols s.raw, fun c hc => rawCols_getLsbD _ _ hc, ?_⟩⟩
  · have op : s.fsm = encode .scanEnd := hf
    exact ⟨rowDrive_of_op op, irOut_of_op_ne_txSeg op (by decide), pwrState_of_op op⟩
  · constructor <;> intro hraw <;> rw [exec_scanEnd]
    · rw [decide_eq_true hraw]; rfl
    · rw [decide_eq_false hraw]; rfl

end Sys2Proof.Machine
end

section
/-! The resolve and encode family (41_resolve_encode.md): the matcher and the frame packer, then RESOLVE and ENCODE. -/
namespace Sys2Proof.Machine

/-! ### The matcher (rule R65) -/

/-- Nothing is found below `n` when no index below `n` holds the value. -/
theorem lastMatchBelow_eq_none_iff {rom : Vector Byte 24} {v : Byte} {n : Nat} :
    lastMatchBelow rom v n = none ↔ ∀ j < n, memRead rom j ≠ some v := by
  induction n with
  | zero => simp [lastMatchBelow]
  | succ n ih =>
    rw [lastMatchBelow, Nat.forall_lt_succ_right, ← ih]
    split <;> simp [*]

/-- The index found below `n` is the largest one there that holds the value. -/
theorem lastMatchBelow_eq_some_iff {rom : Vector Byte 24} {v : Byte} {n m : Nat} :
    lastMatchBelow rom v n = some m ↔
      m < n ∧ memRead rom m = some v ∧ ∀ j < n, m < j → memRead rom j ≠ some v := by
  induction n with
  | zero => simp [lastMatchBelow]
  | succ n ih =>
    rw [lastMatchBelow]
    split
    next hn =>
      rw [Option.some_inj]
      constructor
      · rintro rfl
        exact ⟨Nat.lt_succ_self _, hn, fun j hj hlt => by omega⟩
      · rintro ⟨hm, -, hmax⟩
        have : ¬m < n := fun hlt => hmax n (Nat.lt_succ_self n) hlt hn
        omega
    next hn =>
      rw [ih, Nat.forall_lt_succ_right]
      constructor
      · rintro ⟨hm, hv, hmax⟩
        exact ⟨Nat.lt_succ_of_lt hm, hv, hmax, fun _ => hn⟩
      · rintro ⟨hm, hv, hmax, -⟩
        have : m ≠ n := by rintro rfl; exact hn hv
        exact ⟨by omega, hv, hmax⟩

theorem memRead_ne_some_iff {rom : Vector Byte 24} {i : Nat} {v : Byte} :
    memRead rom i ≠ some v ↔ ∀ h : i < 24, rom[i] ≠ v := by
  rw [Ne, memRead_eq_some, not_exists]

/-- Settles O15: LastMatch searches all 24 indices from the top, and a read within the table finds its entry. -/
theorem lastMatchIsLargestIndex : Obligations.LastMatchIsLargestIndex := by
  intro c v
  refine ⟨fun m => ?_, ?_⟩
  · rw [lastMatch, lastMatchBelow_eq_some_iff, memRead_eq_some]
    simp only [memRead_ne_some_iff]
    constructor
    · rintro ⟨-, ⟨hm, hv⟩, hmax⟩
      exact ⟨hm, hv, fun j hj hlt => hmax j hj hlt hj⟩
    · rintro ⟨hm, hv, hmax⟩
      exact ⟨hm, ⟨hm, hv⟩, fun j hj hlt _ => hmax j hj hlt⟩
  · rw [lastMatch, lastMatchBelow_eq_none_iff]
    simp only [memRead_ne_some_iff]
    exact ⟨fun h j hj => h j hj hj, fun h j hj _ => h j hj⟩

/-! ### The frame packer (rules R66, R67) -/

theorem addrOf_of_selector {c : Config} (h : c.addrMode = .selector) (sel : BitVec 2) :
    addrOf c sel = c.addrMap[sel.toNat] := by
  rw [addrOf, h]

theorem addrOf_of_fixed {c : Config} (h : c.addrMode = .fixed) (sel : BitVec 2) : addrOf c sel = c.addrMap[0] := by
  rw [addrOf, h]

/-- Settles O19: the mode selects the entry; in FIXED mode an admitted address map holds the same address everywhere. -/
theorem addressMapping : Obligations.AddressMapping := by
  intro c sel
  have selector : c.addrMode = .selector → ∀ i : Fin 4, sel.toNat = i.val → addrOf c sel = c.addrMap[i] := by
    intro hmode i hi
    rw [addrOf_of_selector hmode]
    simp only [hi, Fin.getElem_fin]
  refine ⟨selector, fun hmode => addrOf_of_fixed hmode sel, fun hc i hi => ?_⟩
  cases hmode : c.addrMode with
  | selector => exact selector hmode i hi
  | fixed =>
    obtain ⟨-, -, -, -, -, -, -, sameAddress⟩ := (Config.wf_iff_admitted c).mp hc
    exact (addrOf_of_fixed hmode sel).trans (sameAddress hmode 0 i)

theorem packed_eq_ofNat (c : Config) (payload : Byte) (sel : BitVec 2) (t : Bool) :
    packed c payload sel t = BitVec.ofNat 16 (c.startBits.toNat + (addrOf c sel).toNat + payload.toNat +
      (if t then c.toggleOffset.toNat else 0)) := by
  have toggle : (if t then c.toggleOffset else 0) = BitVec.ofNat 16 (if t then c.toggleOffset.toNat else 0) := by
    cases t <;> simp
  rw [packed, toggle]
  simp only [BitVec.ofNat_add, BitVec.ofNat_toNat, BitVec.setWidth_eq]

/-- The shift is a multiplication by a power of two, both modulo 2^16. -/
theorem frameOf_eq_ofNat (c : Config) (payload : Byte) (sel : BitVec 2) (t : Bool) :
    frameOf c payload sel t = BitVec.ofNat 16 ((c.startBits.toNat + (addrOf c sel).toNat + payload.toNat +
      (if t then c.toggleOffset.toNat else 0)) * 2 ^ c.frameShift) := by
  rw [frameOf, packed_eq_ofNat]
  apply BitVec.eq_of_toNat_eq
  rw [BitVec.toNat_shiftLeft, BitVec.toNat_ofNat, BitVec.toNat_ofNat, Nat.shiftLeft_eq, Nat.mod_mul_mod]

/-! ### RESOLVE and ENCODE (rules R68, R70) -/

/-- The operations that are active but scan no row and send nothing. -/
theorem active_outputs {s : State} {i : Instr} (h : s.fsm = encode i)
    (hi : i ∈ [Instr.scanEnd, .resolve, .encode, .txLoad, .txEnd, .decideTx]) :
    s.rowDrive = 0b111111#6 ∧ s.irOut = false ∧ s.pwrState = .active := by
  simp only [List.mem_cons, List.not_mem_nil, or_false] at hi
  rcases hi with rfl | rfl | rfl | rfl | rfl | rfl
  all_goals exact ⟨rowDrive_of_op h, irOut_of_op_ne_txSeg h (by decide), pwrState_of_op h⟩

theorem exec_resolve_of_noMatch {s : State} (h : lastMatch s.cfg s.raw = none) :
    exec .resolve s = .next (s.edgeUpdate.raiseNoMatch.errorExit s.colIn) := by
  simp only [exec, execResolve, h]

theorem exec_resolve_of_match {s : State} {m : Nat} (h : lastMatch s.cfg s.raw = some m) :
    exec .resolve s = .next (if s.errNokey then { s.edgeUpdate with keyIdx := BitVec.ofNat 5 m }.errorExit s.colIn
      else { s.edgeUpdate with keyIdx := BitVec.ofNat 5 m }.goto .encode) := by
  simp only [exec, execResolve, h]

/-- Settles O16: the match selects the branch, then NoKey; an error exit overwrites the detector's own update whole. -/
theorem resolveMatchesOrExits : Obligations.ResolveMatchesOrExits := by
  refine ⟨rfl, fun s => ⟨fun hf => active_outputs (i := .resolve) hf (by decide), fun hm => ?_, fun m hm => ?_⟩⟩
  · exact exec_resolve_of_noMatch hm
  · rw [exec_resolve_of_match hm]
    constructor <;> intro hk
    · rw [if_pos hk]; rfl
    · rw [hk]; rfl

theorem exec_encode_of_lt {s : State} (h : s.keyIdx.toNat < 24) :
    exec .encode s = .next { s.edgeUpdate with
      frame := frameOf s.cfg s.cfg.funcTable[s.keyIdx.toNat] s.selIn s.toggle, heldDown := true,
      fsm := encode .txLoad } := by
  have payload : memRead s.cfg.funcTable s.keyIdx.toNat = some s.cfg.funcTable[s.keyIdx.toNat] :=
    memRead_eq_some.mpr ⟨h, rfl⟩
  simp only [exec, execEncode, payload]
  rfl

/-- Settles O18: the payload read is the table's entry, and the packed frame is the sum on natural numbers. -/
theorem encodePacksFrame : Obligations.EncodePacksFrame := by
  refine ⟨rfl, fun s => ⟨fun hf => active_outputs (i := .encode) hf (by decide), fun h => ?_⟩⟩
  rw [exec_encode_of_lt h, frameOf_eq_ofNat]
  rfl

end Sys2Proof.Machine
end

section
/-! The transmit family (42_transmit.md): the segment table, then TX_LOAD, TX_SEG and TX_END. -/
namespace Sys2Proof.Machine

/-! ### The segment table (rule R72) -/

/-- The first segment of a bit is active exactly for a 0. -/
theorem segA_eq (c : Config) (b : Bool) : segA c b = ⟨!b, if b then c.t1Off else c.t0On * c.carPeriod⟩ := by
  cases b <;> rfl

/-- The second segment of a bit is active exactly for a 1. -/
theorem segB_eq (c : Config) (b : Bool) : segB c b = ⟨b, if b then c.t1On * c.carPeriod else c.t0Off⟩ := by
  cases b <;> rfl

/-- Settles O22: each row of the table is one value of the bit, and a bit's length is the sum of its segments'. -/
theorem segmentTable : Obligations.SegmentTable := fun c =>
  ⟨segA_eq c true, segB_eq c true, segA_eq c false, segB_eq c false, rfl, rfl⟩

/-! ### TX_LOAD (rule R73) -/

theorem exec_txLoad (s : State) :
    exec .txLoad s = .next (({ s.edgeUpdate with shreg := s.frame, bitcnt := 0, half := false }.loadSegment
      (segA s.cfg (s.frame.getLsbD 15))).goto .txSeg) := rfl

/-- Settles O23: the segment loaded is the first one of the frame's most significant bit. -/
theorem txLoadStartsFrame : Obligations.TxLoadStartsFrame := by
  refine ⟨rfl, fun s => ⟨fun hf => active_outputs (i := .txLoad) hf (by decide), ?_⟩⟩
  rw [exec_txLoad, segA_eq]
  rfl

/-! ### TX_SEG (rule R74) -/

/-- The carrier tick of every TX_SEG cycle; a segment that starts in the cycle overwrites it. -/
def State.carrierTick (s : State) : State :=
  { s.edgeUpdate with carPhase := (s.carPhase + 1) % s.cfg.carPeriod }

/-- The end of a bit: it is shifted out and counted. -/
def State.bitDone (s : State) : State := { s.carrierTick with shreg := s.shreg <<< 1, bitcnt := s.bitcnt + 1 }

theorem exec_txSeg_ticks {s : State} (h : 1 < s.tmr) :
    exec .txSeg s = .next (s.carrierTick.loadTmr (s.tmr - 1)) :=
  congrArg Host.Outcome.next (wait_counts h)

theorem exec_txSeg_of_firstSegment {s : State} (h : s.tmr ≤ 1) (hh : s.half = false) :
    exec .txSeg s = .next ({ s.carrierTick with half := true }.loadSegment (segB s.cfg (s.shreg.getLsbD 15))) :=
  congrArg Host.Outcome.next ((wait_expires h).trans (if_neg (by simp [hh])))

theorem exec_txSeg_of_bitEnd {s : State} (h : s.tmr ≤ 1) (hh : s.half = true) (hb : s.bitcnt.toNat + 1 ≠ nBits) :
    exec .txSeg s = .next ({ s.bitDone with half := false }.loadSegment (segA s.cfg (s.shreg.getLsbD 14))) :=
  congrArg Host.Outcome.next ((wait_expires h).trans ((if_pos hh).trans (if_neg hb)))

theorem exec_txSeg_of_frameEnd {s : State} (h : s.tmr ≤ 1) (hh : s.half = true) (hb : s.bitcnt.toNat + 1 = nBits) :
    exec .txSeg s = .next (s.bitDone.goto .txEnd) :=
  congrArg Host.Outcome.next ((wait_expires h).trans ((if_pos hh).trans (if_pos hb)))

theorem txSeg_outputs {s : State} (h : s.fsm = encode .txSeg) :
    s.rowDrive = 0b111111#6 ∧ s.pwrState = .light ∧
    (s.irOut = true ↔ s.segOn = true ∧ s.carPhase < s.cfg.carHigh) := by
  refine ⟨rowDrive_of_op h, pwrState_of_op h, ?_⟩
  rw [irOut_eq_true_iff, and_iff_right h]

/-- Settles O24: the timer, then the half of the bit, then the bit count select the branch. -/
theorem txSegRunsSegments : Obligations.TxSegRunsSegments := by
  refine ⟨rfl, fun s => ⟨txSeg_outputs, exec_txSeg_ticks, fun ht hh => ?_, fun ht hh hb => ?_, fun ht hh hb => ?_⟩⟩
  · rw [exec_txSeg_of_firstSegment ht hh, segB_eq]
    rfl
  · rw [exec_txSeg_of_bitEnd ht hh hb, segA_eq]
    rfl
  · have last : s.bitcnt + 1 = 14 := by bv_omega
    rw [exec_txSeg_of_frameEnd ht hh hb, State.bitDone, last]
    rfl

/-! ### TX_END (rule R75) -/

/-- Settles O25: the writes are unconditional, so the state left is the model's own. -/
theorem txEndClears : Obligations.TxEndClears :=
  ⟨rfl, fun _ => ⟨fun hf => active_outputs (i := .txEnd) hf (by decide), rfl⟩⟩

end Sys2Proof.Machine
end

section
/-! The retransmit family (43_retransmit.md): DECIDE and INTERFRAME. -/
namespace Sys2Proof.Machine

/-! ### DECIDE (rule R79) -/

/-- Settles O26: the latch, then the columns select the branch; an arming overwrites the detector's own update whole,
so only the branch without one keeps it. -/
theorem decideRetransmitsOrEnds : Obligations.DecideRetransmitsOrEnds := by
  refine ⟨rfl, fun s => ⟨fun hf => active_outputs (i := .decideTx) hf (by decide), exec_decideTx_of_noLatch,
    exec_decideTx_of_column, fun hl hc => ?_⟩⟩
  rw [exec_decideTx_of_release hl hc, hc]
  rfl

/-! ### INTERFRAME (rule R80) -/

/-- Settles O27: the shared wait, with the reload of the same frame as its expiry. -/
theorem interframeDelays : Obligations.InterframeDelays := by
  refine ⟨rfl, fun s => ⟨fun hf => ?_, fun ht => ?_, fun ht => ?_⟩⟩
  · have op : s.fsm = encode .interframe := hf
    exact ⟨rowDrive_of_op op, irOut_of_op_ne_txSeg op (by decide), pwrState_of_op op⟩
  · exact congrArg Host.Outcome.next (wait_counts ht)
  · exact congrArg Host.Outcome.next (wait_expires ht)

end Sys2Proof.Machine
end

section
/-! The sense-line edge detector (60_exceptions.md rules R88 to R90): when it fires, and for every operation whether it
arms the detector or leaves it to the update of the cycle. -/
namespace Sys2Proof.Machine

/-! ### The edge of one cycle (rule R88) -/

theorem rose_iff {prev col : Cols} :
    rose prev col = true ↔ ∃ c < 4, col.getLsbD c = true ∧ prev.getLsbD c = false := by
  revert prev col
  decide

/-- A fall is a rise with the two samples exchanged. -/
theorem fell_iff {prev col : Cols} :
    fell prev col = true ↔ ∃ c < 4, prev.getLsbD c = true ∧ col.getLsbD c = false :=
  rose_iff (prev := col) (col := prev)

theorem edgeFires_iff (s : State) :
    s.edgeFires = true ↔ s.edgeEn = true ∧ edgeHit s.edgePol s.colPrev s.colIn = true := by
  rw [State.edgeFires, Bool.and_eq_true]

/-- A press detector whose baseline holds every column now asserted does not fire. -/
theorem not_edgeFires_of_held {s : State} (hp : s.edgePol = .rise)
    (held : ∀ c < 4, s.colIn.getLsbD c = true → s.colPrev.getLsbD c = true) : ¬s.edgeFires = true := by
  rw [edgeFires_iff, hp]
  rintro ⟨-, hit⟩
  obtain ⟨c, hc, now, before⟩ := rose_iff.mp hit
  rw [held c hc now] at before
  cases before

/-! ### What an operation leaves in the detector -/

/-- The places that arm the detector, with the polarity and the baseline they arm it for (rules R62, R68, R79). -/
inductive State.Arms (s : State) : Instr → EdgePol → Cols → Prop
  | sweepEnd : s.Arms .scanEnd .fall (rawCols s.cfg.ncols s.raw)
  | noMatch (hm : lastMatch s.cfg s.raw = none) : s.Arms .resolve .rise s.colIn
  | noKey (hk : s.errNokey = true) : s.Arms .resolve .rise s.colIn
  | stillHeld (hl : s.edgeLatch = true) (hc : s.colIn ≠ 0) : s.Arms .decideTx .fall s.colIn
  | released (hl : s.edgeLatch = true) (hc : s.colIn = 0) : s.Arms .decideTx .rise s.colIn

/-- `t` has just been armed for polarity `p` against the baseline `c`; in IDLE that is an arming for a press. -/
structure State.Armed (t : State) (p : EdgePol) (c : Cols) : Prop where
  enabled : t.edgeEn = true
  polarity : t.edgePol = p
  unlatched : t.edgeLatch = false
  baseline : t.colPrev = c
  inIdle : t.fsm = encode .idle → p = .rise

/-- `t` has in its detector what the update of the cycle leaves there, but for the latch that the waking IDLE clears,
and IDLE has not been entered. -/
structure State.Tracks (s : State) (i : Instr) (t : State) : Prop where
  enabled : t.edgeEn = s.edgeUpdate.edgeEn
  polarity : t.edgePol = s.edgePol
  latch : (i = .idle → s.edgeLatch = false) → t.edgeLatch = s.edgeUpdate.edgeLatch
  baseline : t.colPrev = s.colIn
  inIdle : t.fsm = encode .idle → s.fsm = encode .idle

/-- Every operation arms the detector at one of the five places, or leaves it to the update of the cycle. -/
theorem exec_detector {i : Instr} {s t : State} (h : exec i s = .next t) :
    (∃ p c, s.Arms i p c ∧ t.Armed p c) ∨ s.Tracks i t := by
  cases i
  case scanEnd =>
    cases h
    exact .inl ⟨_, _, .sweepEnd, rfl, rfl, rfl, rfl, by simp [encode_inj]⟩
  case resolve =>
    cases hm : lastMatch s.cfg s.raw with
    | none =>
      rw [exec_resolve_of_noMatch hm] at h
      cases h
      exact .inl ⟨_, _, .noMatch hm, rfl, rfl, rfl, rfl, fun _ => rfl⟩
    | some m =>
      rw [exec_resolve_of_match hm] at h
      cases h
      split
      next hk => exact .inl ⟨_, _, .noKey hk, rfl, rfl, rfl, rfl, fun _ => rfl⟩
      next => exact .inr ⟨rfl, rfl, fun _ => rfl, rfl, by simp [encode_inj]⟩
  case decideTx =>
    cases hl : s.edgeLatch
    · rw [exec_decideTx_of_noLatch hl] at h
      cases h
      exact .inr ⟨rfl, rfl, fun _ => rfl, rfl, by simp [encode_inj]⟩
    · by_cases hc : s.colIn = 0
      · rw [exec_decideTx_of_release hl hc] at h
        cases h
        exact .inl ⟨_, _, .released hl hc, rfl, rfl, rfl, rfl, fun _ => rfl⟩
      · rw [exec_decideTx_of_column hl hc] at h
        cases h
        exact .inl ⟨_, _, .stillHeld hl hc, rfl, rfl, rfl, rfl, by simp [encode_inj]⟩
  case idle =>
    cases h
    split
    next hl => exact .inr ⟨rfl, rfl, fun asleep => by simp [asleep] at hl, rfl, by simp [encode_inj]⟩
    next => exact .inr ⟨rfl, rfl, fun _ => rfl, rfl, id⟩
  case encode =>
    simp only [exec, execEncode] at h
    split at h
    · cases h
    · cases h
      exact .inr ⟨rfl, rfl, fun _ => rfl, rfl, by simp [encode_inj]⟩
  case txSeg =>
    cases h
    rcases wait_cases s _ _ with ⟨_, e⟩ | ⟨_, e⟩ <;> rw [e]
    · exact .inr ⟨rfl, rfl, fun _ => rfl, rfl, id⟩
    · split
      · split <;> exact .inr ⟨rfl, rfl, fun _ => rfl, rfl, by simp [encode_inj]⟩
      · exact .inr ⟨rfl, rfl, fun _ => rfl, rfl, id⟩
  case debounce | scanDrive | interframe =>
    cases h
    rcases wait_cases s _ _ with ⟨_, e⟩ | ⟨_, e⟩ <;> rw [e]
    · exact .inr ⟨rfl, rfl, fun _ => rfl, rfl, id⟩
    · exact .inr ⟨rfl, rfl, fun _ => rfl, rfl, by simp [encode_inj]⟩
  case scanSample =>
    cases h
    split <;> exact .inr ⟨rfl, rfl, fun _ => rfl, rfl, by simp [encode_inj]⟩
  case txLoad | txEnd =>
    cases h
    exact .inr ⟨rfl, rfl, fun _ => rfl, rfl, by simp [encode_inj]⟩

/-! ### The update in every cycle (rule R88) -/

/-- Settles O28: the detector fires when it is armed and some column makes the edge, and an operation that performs none
of the armings leaves the detector to its update. -/
theorem edgeDetectorUpdate : Obligations.EdgeDetectorUpdate := by
  refine ⟨fun s hit hh => ?_, fun i s t h hse hid hre hde => ?_⟩
  · have fires : s.edgeFires = true ↔ s.edgeEn = true ∧ hit := by
      rw [edgeFires_iff, hh]
      cases s.edgePol
      · exact and_congr_right fun _ => rose_iff
      · exact and_congr_right fun _ => fell_iff
    rw [← fires]
    rcases edgeUpdate_cases s with ⟨hf, e⟩ | ⟨hf, e⟩
    · exact ⟨fun _ => e, fun hn => absurd hf hn⟩
    · exact ⟨fun hy => absurd hy (by simp [hf]), fun _ => e⟩
  · rcases exec_detector h with ⟨p, c, arms, -⟩ | tracks
    · exfalso
      cases arms with
      | sweepEnd => exact hse rfl
      | noMatch hm => exact (hre rfl).2 hm
      | noKey hk => simp [hk] at hre
      | stillHeld hl | released hl => simp [hl] at hde
    · exact ⟨tracks.enabled, tracks.polarity, tracks.latch hid, tracks.baseline⟩

/-! ### The two armings (rules R89, R90) -/

/-- Settles O29: only an arming for a press enters IDLE, and columns already in its baseline do not make it fire. -/
theorem entryIntoIdleArmsPress : Obligations.EntryIntoIdleArmsPress := by
  refine ⟨fun i s t hd hi h ht => ?_, fun s hp held => ?_, fun c l n => ⟨rfl, rfl, rfl, rfl⟩⟩
  · rcases exec_detector h with ⟨p, c, arms, armed⟩ | tracks
    · obtain rfl := armed.inIdle ht
      have place : (i = .resolve ∨ i = .decideTx) ∧ c = s.colIn := by cases arms <;> simp
      obtain ⟨hi, rfl⟩ := place
      exact ⟨hi, armed.enabled, armed.polarity, armed.unlatched, armed.baseline⟩
    · have stayed : encode i = encode .idle := (decode_eq_ok_iff.mp hd).symm.trans (tracks.inIdle ht)
      exact absurd (encode_inj.mp stayed) hi
  · rw [State.edgeUpdate_edgeLatch, if_neg (not_edgeFires_of_held hp held)]

/-- Settles O30: the two places that arm for a release, and no other arming has polarity FALL. -/
theorem releaseArming : Obligations.ReleaseArming := by
  refine ⟨fun s t h => ?_, fun s t h hl hc => ?_, fun i s t h before after => ?_⟩
  · cases h
    exact ⟨rfl, rfl, rfl, rfl⟩
  · rw [exec_decideTx_of_column hl hc] at h
    cases h
    exact ⟨rfl, rfl, rfl, rfl⟩
  · rcases exec_detector h with ⟨p, c, arms, armed⟩ | tracks
    · obtain rfl : p = .fall := armed.polarity.symm.trans after
      cases arms with
      | sweepEnd => exact .inl rfl
      | stillHeld hl hc => exact .inr ⟨rfl, hl, hc⟩
    · have kept : EdgePol.fall = .rise := after.symm.trans (tracks.polarity.trans before)
      cases kept

end Sys2Proof.Machine
end

section
/-! RESET_STATE (70_reset_and_hazards.md rule R102): its registers and the outputs of its cycle. -/
namespace Sys2Proof.Machine

/-- Settles O5: the registers are the reset values of R14 by definition, and the outputs are those of IDLE, whose code
the reset value of `fsm` is. -/
theorem resetState : Obligations.ResetState := by
  refine ⟨fun c l n => ?_, Config.nominal, [], 0, rfl⟩
  have op : (State.resetWith c l n).fsm = encode .idle := State.resetWith_fsm c l n
  obtain ⟨-, idle⟩ := idleWaitsForAnEdge
  obtain ⟨outputs, -, -⟩ := idle (State.resetWith c l n)
  exact ⟨op, rfl, rfl, rfl, rfl, rfl, rfl, rfl, rfl, rfl, rfl, rfl, rfl, rfl, rfl, rfl, rfl, rfl, rfl, outputs op⟩

end Sys2Proof.Machine
end

section
/-! Every branch of the twelve operations' rules in one list: what a cycle of an operation can do. The claims about all
operations, and the invariant, go through this list and unfold no operation. -/
namespace Sys2Proof.Machine

/-- `s.Cycle i t`: a cycle of operation `i` that starts in `s` leaves `t`. One constructor for each branch of each
rule, with its guard; every state is written over the detector's update of the cycle (10_state.md rule R30). -/
inductive State.Cycle (s : State) : Instr → State → Prop
  | idleSleeps (hl : s.edgeLatch = false) : s.Cycle .idle s.edgeUpdate
  | idleWakes (hl : s.edgeLatch = true) : s.Cycle .idle
      (({ s.edgeUpdate.clearErrors with edgeLatch := false, raw := 0, keyIdx := keySentinel }.loadTmr
        s.cfg.debounce).goto .debounce)
  | debounceCounts (ht : 1 < s.tmr) : s.Cycle .debounce (s.edgeUpdate.loadTmr (s.tmr - 1))
  | debounceExpires (ht : s.tmr ≤ 1) : s.Cycle .debounce
      (({ s.edgeUpdate with row := 0 }.loadTmr s.cfg.rowSettle).goto .scanDrive)
  | scanDriveCounts (ht : 1 < s.tmr) : s.Cycle .scanDrive (s.edgeUpdate.loadTmr (s.tmr - 1))
  | scanDriveExpires (ht : s.tmr ≤ 1) : s.Cycle .scanDrive ((s.edgeUpdate.loadTmr 0).goto .scanSample)
  | sampleLast (hr : s.row.toNat = 5) : s.Cycle .scanSample
      ({ s.edgeUpdate with raw := accumulate s.raw s.row s.colIn }.goto .scanEnd)
  | sampleNext (hr : s.row.toNat ≠ 5) : s.Cycle .scanSample
      (({ s.edgeUpdate with raw := accumulate s.raw s.row s.colIn, row := s.row + 1 }.loadTmr s.cfg.rowSettle).goto
        .scanDrive)
  | scanEnd : s.Cycle .scanEnd
      ({ (s.edgeUpdate.raiseNoKeyIf (decide (s.raw = 0))).armRelease (rawCols s.cfg.ncols s.raw) with row := 0 }.goto
        .resolve)
  | resolveNoMatch (hm : lastMatch s.cfg s.raw = none) : s.Cycle .resolve
      (s.edgeUpdate.raiseNoMatch.errorExit s.colIn)
  | resolveNoKey (m : Nat) (hm : lastMatch s.cfg s.raw = some m) (hk : s.errNokey = true) : s.Cycle .resolve
      ({ s.edgeUpdate with keyIdx := BitVec.ofNat 5 m }.errorExit s.colIn)
  | resolveMatch (m : Nat) (hm : lastMatch s.cfg s.raw = some m) (hk : s.errNokey = false) : s.Cycle .resolve
      ({ s.edgeUpdate with keyIdx := BitVec.ofNat 5 m }.goto .encode)
  | encode (payload : Byte) (hp : memRead s.cfg.funcTable s.keyIdx.toNat = some payload) : s.Cycle .encode
      (({ s.edgeUpdate with frame := frameOf s.cfg payload s.selIn s.toggle }.setHeld true).goto .txLoad)
  | txLoad : s.Cycle .txLoad
      (({ s.edgeUpdate with shreg := s.frame, bitcnt := 0, half := false }.loadSegment
        (segA s.cfg (s.frame.getLsbD 15))).goto .txSeg)
  | segTicks (ht : 1 < s.tmr) : s.Cycle .txSeg (s.carrierTick.loadTmr (s.tmr - 1))
  | segFirstEnds (ht : s.tmr ≤ 1) (hh : s.half = false) : s.Cycle .txSeg
      ({ s.carrierTick with half := true }.loadSegment (segB s.cfg (s.shreg.getLsbD 15)))
  | segBitEnds (ht : s.tmr ≤ 1) (hh : s.half = true) (hb : s.bitcnt.toNat + 1 ≠ nBits) : s.Cycle .txSeg
      ({ s.bitDone with half := false }.loadSegment (segA s.cfg (s.shreg.getLsbD 14)))
  | segFrameEnds (ht : s.tmr ≤ 1) (hh : s.half = true) (hb : s.bitcnt.toNat + 1 = nBits) : s.Cycle .txSeg
      (s.bitDone.goto .txEnd)
  | txEnd : s.Cycle .txEnd
      (({ s.edgeUpdate with carPhase := 0, segOn := false, half := false, shreg := 0, bitcnt := 0 }.loadTmr 0).goto
        .decideTx)
  | decideNoLatch (hl : s.edgeLatch = false) : s.Cycle .decideTx s.edgeUpdate.retransmit
  | decideHeld (hl : s.edgeLatch = true) (hc : s.colIn ≠ 0) : s.Cycle .decideTx
      (s.edgeUpdate.armRelease s.colIn).retransmit
  | decideRelease (hl : s.edgeLatch = true) (hc : s.colIn = 0) : s.Cycle .decideTx (s.edgeUpdate.endTransmit s.colIn)
  | interframeCounts (ht : 1 < s.tmr) : s.Cycle .interframe (s.edgeUpdate.loadTmr (s.tmr - 1))
  | interframeExpires (ht : s.tmr ≤ 1) : s.Cycle .interframe ((s.edgeUpdate.loadTmr 0).goto .txLoad)

/-- Each branch of the list is what the operation answers under its guard. -/
theorem exec_of_cycle {i : Instr} {s t : State} (h : s.Cycle i t) : exec i s = .next t := by
  cases h with
  | idleSleeps hl => exact congrArg Host.Outcome.next (if_neg (by simp [hl]))
  | idleWakes hl => exact congrArg Host.Outcome.next (if_pos hl)
  | debounceCounts ht | scanDriveCounts ht | interframeCounts ht => exact congrArg Host.Outcome.next (wait_counts ht)
  | debounceExpires ht | scanDriveExpires ht | interframeExpires ht =>
    exact congrArg Host.Outcome.next (wait_expires ht)
  | sampleLast hr => exact congrArg Host.Outcome.next (if_pos hr)
  | sampleNext hr => exact congrArg Host.Outcome.next (if_neg hr)
  | scanEnd | txLoad | txEnd => rfl
  | resolveNoMatch hm => exact exec_resolve_of_noMatch hm
  | resolveNoKey m hm hk => rw [exec_resolve_of_match hm, if_pos hk]
  | resolveMatch m hm hk => rw [exec_resolve_of_match hm, if_neg (by simp [hk])]
  | encode payload hp => simp only [exec, execEncode, hp]
  | segTicks ht => exact exec_txSeg_ticks ht
  | segFirstEnds ht hh => exact exec_txSeg_of_firstSegment ht hh
  | segBitEnds ht hh hb => exact exec_txSeg_of_bitEnd ht hh hb
  | segFrameEnds ht hh hb => exact exec_txSeg_of_frameEnd ht hh hb
  | decideNoLatch hl => exact exec_decideTx_of_noLatch hl
  | decideHeld hl hc => exact exec_decideTx_of_column hl hc
  | decideRelease hl hc => exact exec_decideTx_of_release hl hc

/-- Some branch applies, but for the index that ENCODE finds absent (rule R35). -/
theorem exists_cycle (i : Instr) (s : State) (hk : i = .encode → s.keyIdx.toNat < 24) : ∃ t, s.Cycle i t := by
  have timer : 1 < s.tmr ∨ s.tmr ≤ 1 := Nat.lt_or_ge 1 s.tmr
  cases i with
  | idle =>
    cases hl : s.edgeLatch with
    | false => exact ⟨_, .idleSleeps hl⟩
    | true => exact ⟨_, .idleWakes hl⟩
  | debounce => exact timer.elim (fun ht => ⟨_, .debounceCounts ht⟩) fun ht => ⟨_, .debounceExpires ht⟩
  | scanDrive => exact timer.elim (fun ht => ⟨_, .scanDriveCounts ht⟩) fun ht => ⟨_, .scanDriveExpires ht⟩
  | scanSample =>
    by_cases hr : s.row.toNat = 5
    · exact ⟨_, .sampleLast hr⟩
    · exact ⟨_, .sampleNext hr⟩
  | scanEnd => exact ⟨_, .scanEnd⟩
  | resolve =>
    cases hm : lastMatch s.cfg s.raw with
    | none => exact ⟨_, .resolveNoMatch hm⟩
    | some m =>
      cases hk : s.errNokey with
      | true => exact ⟨_, .resolveNoKey m hm hk⟩
      | false => exact ⟨_, .resolveMatch m hm hk⟩
  | encode => exact ⟨_, .encode _ (memRead_eq_some.mpr ⟨hk rfl, rfl⟩)⟩
  | txLoad => exact ⟨_, .txLoad⟩
  | txSeg =>
    rcases timer with ht | ht
    · exact ⟨_, .segTicks ht⟩
    · cases hh : s.half with
      | false => exact ⟨_, .segFirstEnds ht hh⟩
      | true =>
        by_cases hb : s.bitcnt.toNat + 1 = nBits
        · exact ⟨_, .segFrameEnds ht hh hb⟩
        · exact ⟨_, .segBitEnds ht hh hb⟩
  | txEnd => exact ⟨_, .txEnd⟩
  | decideTx =>
    cases hl : s.edgeLatch with
    | false => exact ⟨_, .decideNoLatch hl⟩
    | true =>
      by_cases hc : s.colIn = 0
      · exact ⟨_, .decideRelease hl hc⟩
      · exact ⟨_, .decideHeld hl hc⟩
  | interframe => exact timer.elim (fun ht => ⟨_, .interframeCounts ht⟩) fun ht => ⟨_, .interframeExpires ht⟩

theorem exec_encode_of_absent {s : State} (h : 24 ≤ s.keyIdx.toNat) :
    exec .encode s = .fault (.romIndex s.keyIdx.toNat) := by
  simp only [exec, execEncode, memRead_eq_none.mpr h]

/-- The list is complete: an operation answers `t` exactly when one of its branches leaves `t`. -/
theorem exec_eq_next_iff {i : Instr} {s t : State} : exec i s = .next t ↔ s.Cycle i t := by
  refine ⟨fun h => ?_, exec_of_cycle⟩
  have present : i = .encode → s.keyIdx.toNat < 24 := by
    rintro rfl
    by_contra absent
    rw [exec_encode_of_absent (Nat.not_lt.mp absent)] at h
    cases h
  obtain ⟨u, hu⟩ := exists_cycle i s present
  obtain rfl : u = t := Host.Outcome.next.inj ((exec_of_cycle hu).symm.trans h)
  exact hu

end Sys2Proof.Machine
end

section
/-! The invariant (`State.Inv`): what it needs from the detector's update, then one lemma for each operation, one case
for each branch, and the step. -/
namespace Sys2Proof.Machine

/-! ### The parts of the invariant in a cycle's update -/

theorem base_edgeUpdate {s : State} (h : s.Base) : s.edgeUpdate.Base :=
  { h with prevColumns := colIn_masked s }

theorem sweeping_edgeUpdate {s : State} (h : s.Sweeping) : s.edgeUpdate.Sweeping := by
  obtain ⟨unresolved, off, noError⟩ := h
  exact ⟨unresolved, disarmed_edgeUpdate off, noError⟩

theorem resolved_edgeUpdate {s : State} (h : s.Resolved) : s.edgeUpdate.Resolved := by
  obtain ⟨hk, hm, hraw, hkey, hrow, watching, notMissed⟩ := h
  exact ⟨hk, hm, hraw, hkey, hrow, watching_edgeUpdate watching, release_not_missed watching.1 notMissed⟩

theorem looping_edgeUpdate {s : State} (h : s.Looping) : s.edgeUpdate.Looping := by
  obtain ⟨resolved, held, packed⟩ := h
  exact ⟨resolved_edgeUpdate resolved, held, packed⟩

/-- A detector re-armed for a release against columns that are asserted keeps the press cycle resolved. -/
theorem looping_armRelease {s : State} {c : Cols} (h : s.Looping) (hc : c ≠ 0) : (s.armRelease c).Looping := by
  obtain ⟨⟨hk, hm, hraw, hkey, hrow, -, -⟩, held, packed⟩ := h
  exact ⟨⟨hk, hm, hraw, hkey, hrow, ⟨rfl, rfl⟩, fun _ => hc⟩, held, packed⟩

theorem timer_zero_fits (c : Config) : 0 < 2 ^ c.tmrW := Nat.two_pow_pos _

theorem rawCols_masked (n : Nat) (raw : Byte) : rawCols n raw &&& ~~~colMask n = 0 := by
  rw [rawCols, BitVec.and_assoc, BitVec.and_not_self]
  exact BitVec.and_zero

/-- An index that the matcher answers fits `key_idx`. -/
theorem toNat_ofNat_of_match {c : Config} {v : Byte} {m : Nat} (h : lastMatch c v = some m) :
    (BitVec.ofNat 5 m).toNat = m := by
  obtain ⟨hm, -⟩ := lastMatch_some h
  exact (BitVec.toNat_ofNat m 5).trans (Nat.mod_eq_of_lt (by omega))

/-- The invariant, for a state whose operation is known. -/
theorem inv_of_op {s : State} {i : Instr} (b : s.Base) (hf : s.fsm = encode i) (h : s.InvAt i) : s.Inv :=
  ⟨b, i, decode_eq_ok_iff.mpr hf, h⟩

theorem invAt_of_inv {s : State} {i : Instr} (h : s.Inv) (hf : s.fsm = encode i) : s.InvAt i := by
  obtain ⟨-, j, hd, hj⟩ := h
  obtain rfl : j = i := encode_inj.mp ((decode_eq_ok_iff.mp hd).symm.trans hf)
  exact hj

/-- The invariant does not speak of the inputs to come. -/
theorem inv_advance {s : State} (h : s.Inv) : s.advance.Inv := by
  obtain ⟨b, i, hd, hi⟩ := h
  refine ⟨{ b with }, i, hd, ?_⟩
  cases i <;> exact hi

/-! ### The scan family -/

theorem idle_keeps_inv {s t : State} (b : s.Base) (hf : s.fsm = encode .idle) (h : s.InvAt .idle)
    (hc : s.Cycle .idle t) : t.Inv := by
  obtain ⟨hrow, htmr, held, clear, watching⟩ := h
  cases hc with
  | idleSleeps hl => exact inv_of_op (base_edgeUpdate b) hf ⟨hrow, htmr, held, clear, watching_edgeUpdate watching⟩
  | idleWakes hl =>
    obtain ⟨pol, en⟩ := watching
    have off : s.edgeUpdate.edgeEn = false := by simp [en, hl]
    obtain ⟨-, -, ⟨-, -, -, -, positive, -, -⟩, -, -, -, -, fits, -, -⟩ := wf_numbers b.config
    exact inv_of_op (i := .debounce)
      { base_edgeUpdate b with
        timer := fits, key := .inr rfl, rawColumns := by simp, rawNamesColumn := fun h => absurd rfl h }
      rfl ⟨⟨⟨rfl, rfl, held, clear⟩, ⟨pol, off, rfl⟩, rfl⟩, hrow, positive, Nat.le_refl _, rfl⟩

theorem debounce_keeps_inv {s t : State} (b : s.Base) (hf : s.fsm = encode .debounce) (h : s.InvAt .debounce)
    (hc : s.Cycle .debounce t) : t.Inv := by
  obtain ⟨sweeping, hrow, -, bound, hraw⟩ := h
  cases hc with
  | debounceCounts ht =>
    exact inv_of_op { base_edgeUpdate b with timer := (Nat.sub_le _ _).trans_lt b.timer } hf
      ⟨sweeping_edgeUpdate sweeping, hrow, Nat.le_sub_one_of_lt ht, (Nat.sub_le _ _).trans bound, hraw⟩
  | debounceExpires ht =>
    obtain ⟨-, -, ⟨-, -, -, -, -, -, positive⟩, -, -, -, -, -, -, fits⟩ := wf_numbers b.config
    exact inv_of_op (i := .scanDrive) { base_edgeUpdate b with timer := fits } rfl
      ⟨sweeping_edgeUpdate sweeping, (by decide : (0 : RowNum).toNat < 6), positive, Nat.le_refl _⟩

theorem scanDrive_keeps_inv {s t : State} (b : s.Base) (hf : s.fsm = encode .scanDrive) (h : s.InvAt .scanDrive)
    (hc : s.Cycle .scanDrive t) : t.Inv := by
  obtain ⟨sweeping, hrow, -, bound⟩ := h
  cases hc with
  | scanDriveCounts ht =>
    exact inv_of_op { base_edgeUpdate b with timer := (Nat.sub_le _ _).trans_lt b.timer } hf
      ⟨sweeping_edgeUpdate sweeping, hrow, Nat.le_sub_one_of_lt ht, (Nat.sub_le _ _).trans bound⟩
  | scanDriveExpires ht =>
    exact inv_of_op (i := .scanSample) { base_edgeUpdate b with timer := timer_zero_fits s.cfg } rfl
      ⟨sweeping_edgeUpdate sweeping, hrow, rfl⟩

/-- What a sample gathers is again a RawScanCode (rules R49, R61). -/
theorem base_sample {s : State} (b : s.Base) :
    ({ s.edgeUpdate with raw := accumulate s.raw s.row s.colIn } : State).Base :=
  { base_edgeUpdate b with
    rawColumns := by
      change (accumulate s.raw s.row s.colIn).extractLsb' 4 4 &&& ~~~colMask s.cfg.ncols = 0
      rw [accumulate_high]
      exact or_masked b.rawColumns (colIn_masked s)
    rawNamesColumn := accumulate_names b.rawNamesColumn (colIn_masked s) }

theorem scanSample_keeps_inv {s t : State} (b : s.Base) (h : s.InvAt .scanSample) (hc : s.Cycle .scanSample t) :
    t.Inv := by
  obtain ⟨sweeping, hrow, htmr⟩ := h
  cases hc with
  | sampleLast hr =>
    exact inv_of_op (i := .scanEnd) { base_sample b with } rfl
      ⟨sweeping_edgeUpdate sweeping, BitVec.eq_of_toNat_eq hr, htmr⟩
  | sampleNext hr =>
    obtain ⟨-, -, ⟨-, -, -, -, -, -, positive⟩, -, -, -, -, -, -, fits⟩ := wf_numbers b.config
    have nextRow : (s.row + 1).toNat < 6 := by bv_omega
    exact inv_of_op (i := .scanDrive) { base_sample b with timer := fits } rfl
      ⟨sweeping_edgeUpdate sweeping, nextRow, positive, Nat.le_refl _⟩

theorem scanEnd_keeps_inv {s t : State} (b : s.Base) (h : s.InvAt .scanEnd) (hc : s.Cycle .scanEnd t) : t.Inv := by
  obtain ⟨⟨unresolved, -, noError⟩, -, htmr⟩ := h
  cases hc
  have noKey : (if decide (s.raw = 0) then true else s.errNokey) = true ↔ s.raw = 0 := by simp [noError]
  exact inv_of_op (i := .resolve) { base_edgeUpdate b with prevColumns := rawCols_masked _ _ } rfl
    ⟨unresolved, rfl, htmr, ⟨rfl, rfl⟩, noKey, fun hraw _ => b.rawNamesColumn hraw⟩

/-! ### The resolve and encode family -/

/-- The error exit of a press cycle enters IDLE armed for a press (rules R68, R87, R89). -/
theorem errorExit_inv {s n : State} (b : n.Base) (hrow : n.row = 0) (htmr : n.tmr = 0) (held : n.heldDown = false)
    (clear : n.TxClear) (hcfg : n.cfg = s.cfg) : (n.errorExit s.colIn).Inv :=
  inv_of_op (i := .idle) { b with prevColumns := hcfg ▸ colIn_masked s } rfl ⟨hrow, htmr, held, clear, rfl, rfl⟩

/-- A match is an index of the table (rule R65). -/
theorem base_match {s : State} {m : Nat} (b : s.Base) (hm : lastMatch s.cfg s.raw = some m) :
    ({ s.edgeUpdate with keyIdx := BitVec.ofNat 5 m } : State).Base :=
  { base_edgeUpdate b with key := .inl ((toNat_ofNat_of_match hm).trans_lt (lastMatch_some hm).1) }

theorem resolve_keeps_inv {s t : State} (b : s.Base) (h : s.InvAt .resolve) (hc : s.Cycle .resolve t) : t.Inv := by
  obtain ⟨⟨-, noMatch, held, clear⟩, hrow, htmr, watching, noKey, notMissed⟩ := h
  cases hc with
  | resolveNoMatch hm =>
    exact errorExit_inv (n := s.edgeUpdate.raiseNoMatch) { base_edgeUpdate b with key := .inr rfl } hrow htmr held
      clear rfl
  | resolveNoKey m hm hk => exact errorExit_inv (base_match b hm) hrow htmr held clear rfl
  | resolveMatch m hm hk =>
    have hraw : s.raw ≠ 0 := fun hz => by simp [noKey.mpr hz] at hk
    have entry : memRead s.cfg.keyTable (BitVec.ofNat 5 m).toNat = some s.raw := by
      rw [toNat_ofNat_of_match hm]
      exact (lastMatch_some hm).2
    exact inv_of_op (i := .encode) { base_match b hm with } rfl
      ⟨⟨hk, noMatch, hraw, entry, hrow, watching_edgeUpdate watching,
        release_not_missed watching.1 (notMissed hraw)⟩, held, htmr, clear⟩

theorem encode_keeps_inv {s t : State} (b : s.Base) (h : s.InvAt .encode) (hc : s.Cycle .encode t) : t.Inv := by
  obtain ⟨resolved, -, htmr, clear⟩ := h
  cases hc with
  | encode payload hp =>
    exact inv_of_op (i := .txLoad) { base_edgeUpdate b with } rfl
      ⟨⟨resolved_edgeUpdate resolved, rfl, s.selIn, payload, hp, rfl⟩, htmr, clear⟩

/-! ### The transmit family -/

/-- A segment starts at the start of a carrier period. -/
theorem first_phase (len period : Nat) : 0 = (len - len) % period := by rw [Nat.sub_self, Nat.zero_mod]

theorem bitcnt_succ {b : BitVec 4} (h : b.toNat < nBits) : (b + 1).toNat = b.toNat + 1 := by
  have fits : b.toNat < 14 := h
  bv_omega

/-- The segment that starts after a bit is the first one of the next bit. -/
theorem segment_of_nextBit (s : State) :
    ({ s.bitDone with half := false }.loadSegment (segA s.cfg (s.shreg.getLsbD 14))).segment =
      segA s.cfg (s.shreg.getLsbD 14) :=
  congrArg (segA s.cfg) (show (s.shreg <<< 1).getLsbD 15 = s.shreg.getLsbD 14 by simp)

/-- `s` is sending `f`: what the invariant says of TX_SEG's own registers (R24, R25, R72, R74), for any frame. -/
def State.Sending (f : FrameWord) (s : State) : Prop :=
  s.bitcnt.toNat < nBits ∧ s.shreg = f <<< s.bitcnt.toNat ∧ s.segOn = s.segment.on ∧
  1 ≤ s.tmr ∧ s.tmr ≤ s.segment.len ∧ s.carPhase = (s.segment.len - s.tmr) % s.cfg.carPeriod

theorem sending_txLoad {s t : State} (hc : s.cfg.wf = true) (h : s.Cycle .txLoad t) : t.Sending s.frame := by
  cases h
  obtain ⟨positive, -⟩ := segA_len hc (s.frame.getLsbD 15)
  exact ⟨(by decide : (0#4).toNat < nBits), (BitVec.shiftLeft_zero s.frame).symm, rfl, positive, Nat.le_refl _,
    first_phase _ _⟩

/-- Within a segment the carrier position follows the timer (rules R25, R74). -/
theorem tick_phase {len tmr period : Nat} (ht : 1 < tmr) (hl : tmr ≤ len) :
    ((len - tmr) % period + 1) % period = (len - (tmr - 1)) % period := by
  rw [Nat.mod_add_mod]
  congr 1
  omega

/-- A cycle of TX_SEG goes on sending the frame, or was the last one of its last bit. -/
theorem sending_txSeg {s t : State} {f : FrameWord} (hc : s.cfg.wf = true) (h : s.Sending f)
    (cycle : s.Cycle .txSeg t) :
    (t.fsm = s.fsm ∧ t.Sending f) ∨ (t.fsm = encode .txEnd ∧ t.bitcnt = 14 ∧ t.tmr ≤ 1) := by
  obtain ⟨hbit, hsh, hon, -, bound, hph⟩ := h
  cases cycle with
  | segTicks ht =>
    exact .inl ⟨rfl, hbit, hsh, hon, Nat.le_sub_one_of_lt ht, (Nat.sub_le _ _).trans bound,
      (congrArg (fun p => (p + 1) % s.cfg.carPeriod) hph).trans (tick_phase ht bound)⟩
  | segFirstEnds ht hh =>
    obtain ⟨positive, -⟩ := segB_len hc (s.shreg.getLsbD 15)
    exact .inl ⟨rfl, hbit, hsh, rfl, positive, Nat.le_refl _, first_phase _ _⟩
  | segBitEnds ht hh hb =>
    obtain ⟨positive, -⟩ := segA_len hc (s.shreg.getLsbD 14)
    have count := bitcnt_succ hbit
    have seg := segment_of_nextBit s
    refine .inl ⟨rfl, ?_, ?_, congrArg Segment.on seg.symm, positive, (congrArg Segment.len seg).ge, ?_⟩
    · exact count ▸ Nat.lt_of_le_of_ne hbit hb
    · change s.shreg <<< 1 = f <<< (s.bitcnt + 1).toNat
      rw [count, hsh, BitVec.shiftLeft_add]
    · rw [seg]
      exact first_phase _ _
  | segFrameEnds ht hh hb =>
    exact .inr ⟨rfl, BitVec.eq_of_toNat_eq ((bitcnt_succ hbit).trans hb), ht⟩

theorem txLoad_keeps_inv {s t : State} (b : s.Base) (h : s.InvAt .txLoad) (hc : s.Cycle .txLoad t) : t.Inv := by
  obtain ⟨looping, -, -⟩ := h
  have sending := sending_txLoad b.config hc
  cases hc
  obtain ⟨-, fits⟩ := segA_len b.config (s.frame.getLsbD 15)
  obtain ⟨-, ⟨period, -⟩, -⟩ := wf_numbers b.config
  exact inv_of_op (i := .txSeg) { base_edgeUpdate b with timer := fits, phase := period } rfl
    ⟨looping_edgeUpdate looping, sending⟩

theorem base_txSeg {s t : State} (b : s.Base) (hc : s.Cycle .txSeg t) : t.Base := by
  obtain ⟨-, ⟨period, -⟩, -⟩ := wf_numbers b.config
  cases hc with
  | segTicks ht =>
    exact { base_edgeUpdate b with timer := (Nat.sub_le _ _).trans_lt b.timer, phase := Nat.mod_lt _ period }
  | segFirstEnds ht hh =>
    obtain ⟨-, fits⟩ := segB_len b.config (s.shreg.getLsbD 15)
    exact { base_edgeUpdate b with timer := fits, phase := period }
  | segBitEnds ht hh hb =>
    obtain ⟨-, fits⟩ := segA_len b.config (s.shreg.getLsbD 14)
    exact { base_edgeUpdate b with timer := fits, phase := period }
  | segFrameEnds ht hh hb => exact { base_edgeUpdate b with phase := Nat.mod_lt _ period }

theorem looping_txSeg {s t : State} (h : s.Looping) (hc : s.Cycle .txSeg t) : t.Looping := by
  obtain ⟨⟨hk, hm, hraw, hkey, hrow, ⟨pol, en⟩, notMissed⟩, held, packed⟩ := looping_edgeUpdate h
  cases hc <;> exact ⟨⟨hk, hm, hraw, hkey, hrow, ⟨pol, en⟩, notMissed⟩, held, packed⟩

theorem txSeg_keeps_inv {s t : State} (b : s.Base) (hf : s.fsm = encode .txSeg) (h : s.InvAt .txSeg)
    (hc : s.Cycle .txSeg t) : t.Inv := by
  obtain ⟨looping, sending⟩ := h
  have loop := looping_txSeg looping hc
  have sameFrame : t.frame = s.frame := by cases hc <;> rfl
  rcases sending_txSeg b.config sending hc with ⟨same, sends⟩ | ⟨ended, last, expired⟩
  · exact inv_of_op (base_txSeg b hc) (same.trans hf) ⟨loop, sameFrame ▸ sends⟩
  · exact inv_of_op (i := .txEnd) (base_txSeg b hc) ended ⟨loop, last, expired⟩

theorem txEnd_keeps_inv {s t : State} (b : s.Base) (h : s.InvAt .txEnd) (hc : s.Cycle .txEnd t) : t.Inv := by
  obtain ⟨looping, -, -⟩ := h
  obtain ⟨-, ⟨period, -⟩, -⟩ := wf_numbers b.config
  cases hc
  exact inv_of_op (i := .decideTx) { base_edgeUpdate b with timer := timer_zero_fits s.cfg, phase := period } rfl
    ⟨looping_edgeUpdate looping, rfl, rfl, rfl, rfl, rfl, rfl⟩

/-! ### The retransmit family -/

/-- The RETRANSMIT outcome of DECIDE keeps the loop (rule R79). -/
theorem retransmit_inv {n : State} (b : n.Base) (looping : n.Looping) (clear : n.TxClear) : n.retransmit.Inv := by
  obtain ⟨-, -, ⟨-, -, -, -, -, positive, -⟩, -, -, -, -, -, fits, -⟩ := wf_numbers b.config
  exact inv_of_op (i := .interframe) { b with timer := fits } rfl ⟨looping, positive, Nat.le_refl _, clear⟩

theorem decideTx_keeps_inv {s t : State} (b : s.Base) (h : s.InvAt .decideTx) (hc : s.Cycle .decideTx t) : t.Inv := by
  obtain ⟨looping, -, hsh, hbit, hhalf, hon, hph⟩ := h
  have loop := looping_edgeUpdate looping
  cases hc with
  | decideNoLatch hl => exact retransmit_inv (base_edgeUpdate b) loop ⟨hsh, hbit, hhalf, hon, hph⟩
  | decideHeld hl hc =>
    exact retransmit_inv (n := s.edgeUpdate.armRelease s.colIn) { base_edgeUpdate b with }
      (looping_armRelease loop hc) ⟨hsh, hbit, hhalf, hon, hph⟩
  | decideRelease hl hc =>
    obtain ⟨⟨-, -, -, -, hrow, -, -⟩, -, -⟩ := looping
    obtain ⟨-, ⟨period, -⟩, -⟩ := wf_numbers b.config
    exact inv_of_op (i := .idle) { base_edgeUpdate b with timer := timer_zero_fits s.cfg, phase := period } rfl
      ⟨hrow, rfl, rfl, ⟨hsh, hbit, hhalf, hon, rfl⟩, rfl, rfl⟩

theorem interframe_keeps_inv {s t : State} (b : s.Base) (hf : s.fsm = encode .interframe) (h : s.InvAt .interframe)
    (hc : s.Cycle .interframe t) : t.Inv := by
  obtain ⟨looping, -, bound, clear⟩ := h
  have loop := looping_edgeUpdate looping
  cases hc with
  | interframeCounts ht =>
    exact inv_of_op { base_edgeUpdate b with timer := (Nat.sub_le _ _).trans_lt b.timer } hf
      ⟨loop, Nat.le_sub_one_of_lt ht, (Nat.sub_le _ _).trans bound, clear⟩
  | interframeExpires ht =>
    exact inv_of_op (i := .txLoad) { base_edgeUpdate b with timer := timer_zero_fits s.cfg } rfl ⟨loop, rfl, clear⟩

/-! ### Reset, the step, and progress -/

theorem cycle_keeps_inv {s t : State} {i : Instr} (h : s.Inv) (hf : s.fsm = encode i) (hc : s.Cycle i t) : t.Inv := by
  have hi := invAt_of_inv h hf
  obtain ⟨b, -⟩ := h
  cases i with
  | idle => exact idle_keeps_inv b hf hi hc
  | debounce => exact debounce_keeps_inv b hf hi hc
  | scanDrive => exact scanDrive_keeps_inv b hf hi hc
  | scanSample => exact scanSample_keeps_inv b hi hc
  | scanEnd => exact scanEnd_keeps_inv b hi hc
  | resolve => exact resolve_keeps_inv b hi hc
  | encode => exact encode_keeps_inv b hi hc
  | txLoad => exact txLoad_keeps_inv b hi hc
  | txSeg => exact txSeg_keeps_inv b hf hi hc
  | txEnd => exact txEnd_keeps_inv b hi hc
  | decideTx => exact decideTx_keeps_inv b hi hc
  | interframe => exact interframe_keeps_inv b hf hi hc

theorem resetWith_inv {c : Config} (hc : c.wf = true) (l : List Input) (n : Nat) : (State.resetWith c l n).Inv := by
  obtain ⟨-, ⟨period, -⟩, -⟩ := wf_numbers hc
  exact inv_of_op (i := .idle)
    { config := hc, timer := timer_zero_fits c, phase := period, key := .inr rfl, rawColumns := by simp,
      rawNamesColumn := fun h => absurd rfl h, prevColumns := by simp }
    rfl ⟨rfl, rfl, rfl, ⟨rfl, rfl, rfl, rfl, rfl⟩, rfl, rfl⟩

/-- Settles O43: a step is a reset cycle or one branch of the decoded operation, and each of them keeps the
invariant. -/
theorem stepKeepsInvariant : Obligations.StepKeepsInvariant := by
  intro s t hs ht
  obtain ⟨hwf, ⟨-, rfl⟩ | ⟨-, i, u, hd, hx, rfl⟩⟩ := step_cases ht
  · exact inv_advance (resetWith_inv hwf _ _)
  · exact inv_advance (cycle_keeps_inv hs (decode_eq_ok_iff.mp hd) (exec_eq_next_iff.mp hx))

/-- Settles O42: the reset values meet the clause of IDLE, and the nominal configuration is admitted. -/
theorem resetMeetsInvariant : Obligations.ResetMeetsInvariant :=
  ⟨fun _ l n hc => resetWith_inv hc l n, resetWith_inv (by decide) [] 0⟩

/-- ENCODE finds the index that RESOLVE matched. -/
theorem keyIdx_lt_of_inv {s : State} (h : s.Inv) (hf : s.fsm = encode .encode) : s.keyIdx.toNat < 24 := by
  obtain ⟨⟨-, -, -, entry, -⟩, -⟩ := invAt_of_inv h hf
  obtain ⟨hk, -⟩ := memRead_eq_some.mp entry
  exact hk

theorem inv_steps {s : State} (h : s.Inv) : ∃ t, step s = .next t := by
  have ⟨b, i, hd, _⟩ := h
  have hf := decode_eq_ok_iff.mp hd
  cases hr : s.input.rst with
  | true => exact ⟨_, by rw [step, if_pos b.config, if_pos hr]⟩
  | false =>
    obtain ⟨u, hu⟩ := exists_cycle i s (by rintro rfl; exact keyIdx_lt_of_inv h hf)
    exact ⟨_, step_of_exec b.config hr hd (exec_of_cycle hu)⟩

theorem inv_runs {s : State} (h : s.Inv) (n : Nat) : ∃ t, Reaches n s t := by
  induction n generalizing s with
  | zero => exact ⟨s, rfl⟩
  | succ n ih =>
    obtain ⟨u, hu⟩ := inv_steps h
    obtain ⟨t, ht⟩ := ih (stepKeepsInvariant s u h hu)
    exact ⟨t, reaches_succ.mpr ⟨u, hu, ht⟩⟩

/-- Settles O44: the invariant leaves ENCODE no absent index and the step no reserved code, and reset meets it. -/
theorem noStopIsReachable : Obligations.NoStopIsReachable :=
  ⟨fun _ h => inv_steps h, fun _ l m n hc => inv_runs (resetWith_inv hc l m) n⟩

end Sys2Proof.Machine
end

section
/-! Control transfer (60_exceptions.md rule R84) and the registers' writers (10_state.md rule R14), read off the list of
branches; then reset and the reserved codes. -/
namespace Sys2Proof.Machine

/-! ### Control transfer -/

/-- When an operation is performed again in the next cycle. -/
def State.Stays (s : State) : Instr → Prop
  | .idle => s.edgeLatch = false
  | .debounce | .scanDrive | .interframe => 1 < s.tmr
  | .txSeg => 1 < s.tmr ∨ s.half = false ∨ s.bitcnt.toNat + 1 ≠ nBits
  | .scanSample | .scanEnd | .resolve | .encode | .txLoad | .txEnd | .decideTx => False

/-- The operations that an operation's rule names as its successors, other than itself. -/
def exits : Instr → List Instr
  | .idle => [.debounce]
  | .debounce => [.scanDrive]
  | .scanDrive => [.scanSample]
  | .scanSample => [.scanDrive, .scanEnd]
  | .scanEnd => [.resolve]
  | .resolve => [.encode, .idle]
  | .encode => [.txLoad]
  | .txLoad => [.txSeg]
  | .txSeg => [.txEnd]
  | .txEnd => [.decideTx]
  | .decideTx => [.interframe, .idle]
  | .interframe => [.txLoad]

/-- A branch leaves `fsm` alone or writes the code of one of the operation's exits. -/
theorem cycle_control {s t : State} {i : Instr} (h : s.Cycle i t) :
    (s.Stays i ∧ t.fsm = s.fsm) ∨ (¬s.Stays i ∧ ∃ j ∈ exits i, t.fsm = encode j) := by
  cases h with
  | idleSleeps hl => exact .inl ⟨hl, rfl⟩
  | idleWakes hl => exact .inr ⟨by simp [State.Stays, hl], .debounce, by decide, rfl⟩
  | debounceCounts ht | scanDriveCounts ht | interframeCounts ht => exact .inl ⟨ht, rfl⟩
  | debounceExpires ht => exact .inr ⟨Nat.not_lt.mpr ht, .scanDrive, by decide, rfl⟩
  | scanDriveExpires ht => exact .inr ⟨Nat.not_lt.mpr ht, .scanSample, by decide, rfl⟩
  | sampleLast => exact .inr ⟨id, .scanEnd, by decide, rfl⟩
  | sampleNext => exact .inr ⟨id, .scanDrive, by decide, rfl⟩
  | scanEnd => exact .inr ⟨id, .resolve, by decide, rfl⟩
  | resolveNoMatch | resolveNoKey => exact .inr ⟨id, .idle, by decide, rfl⟩
  | resolveMatch => exact .inr ⟨id, .encode, by decide, rfl⟩
  | encode => exact .inr ⟨id, .txLoad, by decide, rfl⟩
  | txLoad => exact .inr ⟨id, .txSeg, by decide, rfl⟩
  | segTicks ht => exact .inl ⟨.inl ht, rfl⟩
  | segFirstEnds _ hh => exact .inl ⟨.inr (.inl hh), rfl⟩
  | segBitEnds _ _ hb => exact .inl ⟨.inr (.inr hb), rfl⟩
  | segFrameEnds ht hh hb => exact .inr ⟨by simp [State.Stays, hh, hb, ht], .txEnd, by decide, rfl⟩
  | txEnd => exact .inr ⟨id, .decideTx, by decide, rfl⟩
  | decideNoLatch | decideHeld => exact .inr ⟨id, .interframe, by decide, rfl⟩
  | decideRelease => exact .inr ⟨id, .idle, by decide, rfl⟩
  | interframeExpires ht => exact .inr ⟨Nat.not_lt.mpr ht, .txLoad, by decide, rfl⟩

/-- Settles O8: an operation that may stay names itself, and the exits are the other successors of its row. -/
theorem successorOperations : Obligations.SuccessorOperations := by
  intro i s t hd hx
  rcases cycle_control (exec_eq_next_iff.mp hx) with ⟨stays, same⟩ | ⟨-, j, hj, code⟩
  · refine ⟨i, same.trans (decode_eq_ok_iff.mp hd), ?_⟩
    cases i <;> simp [State.Stays] at stays ⊢
  · refine ⟨j, code, ?_⟩
    cases i <;> simp only [exits, List.mem_cons, List.not_mem_nil, or_false] at hj ⊢ <;> simp [hj]

theorem not_mem_exits (i : Instr) : i ∉ exits i := by cases i <;> decide

theorem fsm_ne_iff_not_stays {s t : State} {i : Instr} (hf : s.fsm = encode i) (h : s.Cycle i t) :
    t.fsm ≠ s.fsm ↔ ¬s.Stays i := by
  rcases cycle_control h with ⟨stays, same⟩ | ⟨leaves, j, hj, code⟩
  · exact iff_of_false (not_not.mpr same) (not_not.mpr stays)
  · refine iff_of_true (fun same => ?_) leaves
    obtain rfl : j = i := encode_inj.mp (code.symm.trans (same.trans hf))
    exact not_mem_exits j hj

theorem pwrState_eq_deep_iff (s : State) : s.pwrState = .deep ↔ s.fsm = encode .idle := by
  unfold State.pwrState
  split
  next h => exact iff_of_true rfl h
  next h => split <;> exact iff_of_false (by simp) h

/-- Settles O40: which operation a power state means, and when that operation is left. -/
theorem sleepEndsOnlyByItsEvent : Obligations.SleepEndsOnlyByItsEvent := by
  intro i s t hd hx
  have hf := decode_eq_ok_iff.mp hd
  have cycle := exec_eq_next_iff.mp hx
  have left := fsm_ne_iff_not_stays hf cycle
  have pwr := pwrState_of_op hf
  refine ⟨fun deep => ?_, fun light gone => ?_, fun light hi ht => ?_, fun _ hi => ?_, fun active hi => ?_⟩
  · have idle : s.fsm = encode .idle := (pwrState_eq_deep_iff s).mp deep
    obtain rfl : i = .idle := encode_inj.mp (hf.symm.trans idle)
    rw [Ne, pwrState_eq_deep_iff, ← idle, ← Ne, left]
    simp [State.Stays]
  · rw [left] at gone
    cases i <;> simp [State.Stays, pwr] at light gone ⊢ <;> omega
  · have leaves : ¬s.Stays i := by cases i <;> simp [pwr] at light hi <;> exact Nat.not_lt.mpr ht
    rcases cycle_control cycle with ⟨stays, -⟩ | ⟨-, j, hj, code⟩
    · exact absurd stays leaves
    · rw [pwrState_of_op code]
      cases i <;> simp [pwr] at light hi <;> simp [exits] at hj <;> simp [hj]
  · subst hi
    exact left.trans Nat.not_lt
  · rw [left]
    cases i <;> simp [State.Stays, pwr] at active hi ⊢

/-! ### The writers of a register -/

/-- What a cycle of `i` leaves unchanged, by the 'written by' column of rule R14. -/
structure State.Frame (s : State) (i : Instr) (t : State) : Prop where
  cfg : t.cfg = s.cfg
  row : i ∉ [Instr.debounce, .scanSample, .scanEnd] → t.row = s.row
  tmr : i ∉ [Instr.idle, .debounce, .scanDrive, .scanSample, .txLoad, .txSeg, .txEnd, .decideTx, .interframe] →
    t.tmr = s.tmr
  raw : i ∉ [Instr.idle, .scanSample] → t.raw = s.raw
  keyIdx : i ∉ [Instr.idle, .resolve] → t.keyIdx = s.keyIdx
  errNokey : i ∉ [Instr.idle, .scanEnd] → t.errNokey = s.errNokey
  errNomatch : i ∉ [Instr.idle, .resolve] → t.errNomatch = s.errNomatch
  heldDown : i ∉ [Instr.encode, .decideTx] → t.heldDown = s.heldDown
  toggle : i ∉ [Instr.decideTx] → t.toggle = s.toggle
  frame : i ∉ [Instr.encode] → t.frame = s.frame
  transmitter : i ∉ [Instr.txLoad, .txSeg, .txEnd] →
    t.shreg = s.shreg ∧ t.bitcnt = s.bitcnt ∧ t.half = s.half ∧ t.segOn = s.segOn
  carPhase : i ∉ [Instr.txLoad, .txSeg, .txEnd, .decideTx] → t.carPhase = s.carPhase
  edgePol : i ∉ [Instr.scanEnd, .resolve, .decideTx] → t.edgePol = s.edgePol

/-- No branch writes a register whose row does not list its operation: each clause is read off the field lemmas of the
branch's updates, or its operation is listed. -/
theorem cycle_frame {s t : State} {i : Instr} (h : s.Cycle i t) : s.Frame i t := by
  cases h with
  | segTicks | segFirstEnds | segBitEnds | segFrameEnds => constructor <;> simp [State.carrierTick, State.bitDone]
  | idleSleeps | idleWakes | debounceCounts | debounceExpires | scanDriveCounts | scanDriveExpires | sampleLast
  | sampleNext | scanEnd | resolveNoMatch | resolveNoKey | resolveMatch | encode | txLoad | txEnd | decideNoLatch
  | decideHeld | decideRelease | interframeCounts | interframeExpires =>
    constructor <;> simp

theorem exec_frame {s t : State} {i : Instr} (h : exec i s = .next t) : s.Frame i t :=
  cycle_frame (exec_eq_next_iff.mp h)

/-- Settles O9: the frame of every operation, and the reset values as RESET_STATE writes them. -/
theorem registerWriters : Obligations.RegisterWriters := by
  refine ⟨fun i s t hx => ?_, fun _ _ _ => rfl⟩
  have f := exec_frame hx
  exact ⟨f.cfg, f.row, f.tmr, f.raw, f.keyIdx, f.errNokey, f.errNomatch, f.heldDown, f.toggle, f.frame,
    f.transmitter, f.carPhase, f.edgePol⟩

/-! ### The step, reset and the reserved codes -/

/-- Settles O2: both directions are the decoder's one equivalence. -/
theorem decodeEncodeAgree : Obligations.DecodeEncodeAgree :=
  ⟨decode_encode, fun _ _ h => (decode_eq_ok_iff.mp h).symm⟩

/-- Settles O3: past the configuration, reset and the decoder a step is `exec` and the move to the next inputs. -/
theorem stepRunsDecodedOperation : Obligations.StepRunsDecodedOperation := by
  intro s i hc hr hd
  refine ⟨fun t hx => step_of_exec hc hr hd hx, fun f hx => ?_, exec_ne_refused i s⟩
  simp [step, hc, hr, hd, hx, endCycle]

theorem step_of_reset {s : State} (hc : s.cfg.wf = true) (hr : s.input.rst = true) :
    step s = .next (State.resetWith s.cfg s.stim.tail (s.cycle + 1)) := by
  rw [step, if_pos hc, if_pos hr]
  rfl

theorem reaches_reset {s : State} (hc : s.cfg.wf = true) (n : Nat) (hr : ∀ k < n + 1, (s.inputAt k).rst = true) :
    Reaches (n + 1) s (State.resetWith s.cfg (s.stim.drop (n + 1)) (s.cycle + (n + 1))) := by
  have now : s.input.rst = true := by
    rw [← inputAt_zero]
    exact hr 0 (Nat.succ_pos n)
  have first := step_of_reset hc now
  induction n generalizing s with
  | zero =>
    rw [List.drop_one]
    exact reaches_one first
  | succ n ih =>
    have later : ∀ k < n + 1, ((State.resetWith s.cfg s.stim.tail (s.cycle + 1)).inputAt k).rst = true := by
      intro k hk
      rw [(step_keeps_environment first).2]
      exact hr (k + 1) (by omega)
    have next : (State.resetWith s.cfg s.stim.tail (s.cycle + 1)).input.rst = true := by
      rw [← inputAt_zero]
      exact later 0 (Nat.succ_pos n)
    have rest := ih (s := State.resetWith s.cfg s.stim.tail (s.cycle + 1)) hc later next (step_of_reset hc next)
    rw [State.resetWith_cfg, State.resetWith_stim, State.resetWith_cycle, List.drop_tail, Nat.add_assoc s.cycle,
      Nat.add_comm 1] at rest
    exact reaches_succ.mpr ⟨_, first, rest⟩

/-- Settles O4: each cycle of reset leaves RESET_STATE whatever it finds, and the inputs move on. -/
theorem resetOverridesEverything : Obligations.ResetOverridesEverything := by
  intro s n hc hn hr
  obtain ⟨m, rfl⟩ := Nat.exists_eq_add_of_le' hn
  exact ⟨_, reaches_reset hc m hr, rfl, rfl, rfl, rfl, rfl, rfl, rfl, rfl, rfl, rfl, rfl, rfl, rfl, rfl, rfl, rfl,
    rfl, rfl, rfl, rfl, rfl, rfl⟩

theorem encode_lt (i : Instr) : (encode i).toNat < 12 := of_decide_eq_true (by cases i <;> rfl)

/-- Settles O7: an operation leaves one of its successors' codes, and a run from reset keeps the invariant. -/
theorem reservedCodesUnreachable : Obligations.ReservedCodesUnreachable := by
  refine ⟨fun s hc hr hf => ?_, fun i s t hd hx => ?_, fun c l m n t hc hr => ?_⟩
  · simp [step, hc, hr, decode_eq_reserved_iff.mpr hf, illegalState]
  · obtain ⟨j, hj, -⟩ := successorOperations i s t hd hx
    exact hj ▸ encode_lt j
  · obtain ⟨-, i, hd, -⟩ := reaches_induction stepKeepsInvariant hr (resetWith_inv hc l m)
    exact decode_eq_ok_iff.mp hd ▸ encode_lt i

/-- The press detector that reset arms sees every asserted column as an edge. -/
theorem edgeFires_reset {c : Config} {l : List Input} {n : Nat} (h : (State.resetWith c l n).colIn ≠ 0) :
    (State.resetWith c l n).edgeFires = true := by
  have all : ∀ col : Cols, col ≠ 0 → rose 0 col = true := by decide
  exact (edgeFires_iff _).mpr ⟨rfl, all _ h⟩

/-- `t` is the state right after the waking IDLE cycle `s` (rule R57): a press cycle with nothing gathered yet. -/
structure State.WakesTo (s t : State) : Prop where
  step : step s = .next t
  fsm : t.fsm = encode .debounce
  tmr : t.tmr = s.cfg.debounce
  raw : t.raw = 0
  keyIdx : t.keyIdx = keySentinel
  errNokey : t.errNokey = false
  errNomatch : t.errNomatch = false
  toggle : t.toggle = s.toggle
  frame : t.frame = s.frame
  edgeLatch : t.edgeLatch = false

theorem exists_wakesTo {s : State} (hc : s.cfg.wf = true) (hr : s.input.rst = false) (hf : s.fsm = encode .idle)
    (hl : s.edgeLatch = true) : ∃ t, s.WakesTo t :=
  ⟨_, step_of_exec hc hr (decode_eq_ok_iff.mpr hf) (exec_of_cycle (.idleWakes hl)), rfl, rfl, rfl, rfl, rfl, rfl, rfl,
    rfl, rfl⟩

/-- Settles O53: the press detector latches in the first cycle, and the second is a waking IDLE. -/
theorem keyHeldThroughReset : Obligations.KeyHeldThroughReset := by
  intro c l n hc hr hcol
  have first := step_of_exec (s := State.resetWith c l n) hc (noReset_now hr) (decode_encode .idle)
    (exec_of_cycle (.idleSleeps rfl))
  have run := reaches_one first
  have latch : (State.resetWith c l n).edgeUpdate.advance.edgeLatch = true := if_pos (edgeFires_reset hcol)
  have disarmed : (State.resetWith c l n).edgeUpdate.advance.edgeEn = false := if_pos (edgeFires_reset hcol)
  obtain ⟨u, w⟩ := exists_wakesTo (s := (State.resetWith c l n).edgeUpdate.advance) hc
    (noReset_now (noReset_after (n := 1) run hr)) rfl latch
  exact ⟨_, u, run, latch, disarmed, rfl, reaches_trans run (reaches_one w.step), w.fsm, w.tmr, w.toggle, w.edgeLatch⟩

/-- Settles O54: a reserved code is the code of no operation, so every output takes its "otherwise" branch. -/
theorem reservedCodeOutputs : Obligations.ReservedCodeOutputs := by
  intro s h
  have noOp : ∀ i, s.fsm ≠ encode i := fun i hf => absurd (hf ▸ encode_lt i) (Nat.not_lt.mpr h)
  exact ⟨by simp [State.rowDrive, noOp], by simp [State.irOut, noOp], by simp [State.pwrState, noOp]⟩

end Sys2Proof.Machine
end

section
/-! What the resolver, the ROMs and the frame packer guarantee (41_resolve_encode.md, 20_memory.md). -/
namespace Sys2Proof.Machine

/-! ### Table codes (rules R33, R65, R68) -/

/-- In an admitted configuration an entry of the key table is matched at its own index only. -/
theorem lastMatch_of_entry {c : Config} (hc : c.wf = true) {i : Nat} (hi : i < 24) :
    lastMatch c c.keyTable[i] = some i := by
  obtain ⟨distinct, -⟩ := (Config.wf_iff_admitted c).mp hc
  obtain ⟨largest, -⟩ := lastMatchIsLargestIndex c c.keyTable[i]
  refine (largest i).mpr ⟨hi, rfl, fun j hj hlt => ?_⟩
  exact distinct ⟨j, hj⟩ ⟨i, hi⟩ (Fin.ne_of_gt hlt)

theorem lastMatch_eq_none_of_ne {c : Config} {v : Byte} (h : ∀ (i : Nat) (hi : i < 24), v ≠ c.keyTable[i]) :
    lastMatch c v = none := by
  obtain ⟨-, absent⟩ := lastMatchIsLargestIndex c v
  exact absent.mpr fun j hj => (h j hj).symm

theorem memRead_of_lt {rom : Vector Byte 24} {i : Nat} (h : i < 24) : memRead rom i = some rom[i] :=
  memRead_eq_some.mpr ⟨h, rfl⟩

/-- ERR reads 0b00 exactly when no error is recorded. -/
theorem err_eq_zero_iff (s : State) : s.err = 0b00 ↔ s.errNokey = false ∧ s.errNomatch = false := by
  obtain ⟨none, -⟩ := errorStatusCode s
  exact none

/-- Settles O17: the entry's own index is the match; without a match RESOLVE takes the error exit; and where the
invariant holds each of RESOLVE's three branches records an error or goes to ENCODE. -/
theorem keyCodesResolve : Obligations.KeyCodesResolve := by
  refine ⟨fun s i hi hc hraw hk => ?_, fun s absent => ?_, fun s t hs hd hx => ?_⟩
  · have hm : lastMatch s.cfg s.raw = some i := hraw ▸ lastMatch_of_entry hc hi
    have index := toNat_ofNat_of_match hm
    have payload : memRead s.cfg.funcTable (BitVec.ofNat 5 i).toNat = some s.cfg.funcTable[i] :=
      index.symm ▸ memRead_of_lt hi
    exact ⟨_, exec_of_cycle (.resolveMatch i hm hk), index, rfl, _, exec_of_cycle (.encode _ payload), rfl⟩
  · exact ⟨_, exec_of_cycle (.resolveNoMatch (lastMatch_eq_none_of_ne absent)), rfl, rfl, rfl, rfl⟩
  · obtain ⟨⟨-, noMatch, -, -⟩, -⟩ := invAt_of_inv hs (decode_eq_ok_iff.mp hd)
    rw [err_eq_zero_iff]
    cases exec_eq_next_iff.mp hx with
    | resolveNoMatch hm => simp [encode_inj]
    | resolveNoKey m hm hk => simp [encode_inj, hk]
    | resolveMatch m hm hk => simp [hk, noMatch]

/-- Settles O20: a read answers the entry or nothing, ENCODE turns nothing into the named fault, and the invariant
gives ENCODE a matched index. -/
theorem romReads : Obligations.RomReads :=
  ⟨fun _ _ h => memRead_of_lt h, fun _ _ h => memRead_eq_none.mpr h, fun _ h => exec_encode_of_absent h,
    fun _ hs hd => keyIdx_lt_of_inv hs (decode_eq_ok_iff.mp hd)⟩

/-! ### Frames (rules R51, R66) -/

theorem frameOf_toggle (c : Config) (p : Byte) (sel : BitVec 2) :
    frameOf c p sel true = frameOf c p sel false + c.toggleOffset <<< c.frameShift := by
  simp [frameOf, packed, BitVec.shiftLeft_add_distrib]

/-- The address reaches the frame as a summand of its own. -/
theorem frameOf_eq_addr_add (c : Config) (p : Byte) (sel : BitVec 2) (t : Bool) :
    frameOf c p sel t = addrOf c sel <<< c.frameShift +
      (c.startBits + p.setWidth 16 + if t then c.toggleOffset else 0) <<< c.frameShift := by
  rw [← BitVec.shiftLeft_add_distrib, frameOf, packed]
  congr 1
  ac_rfl

/-- The bits sent are those of the window, from its top down. -/
theorem sentBit_eq_frameWindow (f : FrameWord) {k : Nat} (hk : k < 14) :
    sentBit f k = (frameWindow f).getLsbD (13 - k) := by
  rw [sentBit, frameWindow, BitVec.getLsbD_extractLsb', decide_eq_true (by omega), Bool.true_and]
  congr 1
  omega

/-- Settles O21: a frame is a sum in which toggle and address stand alone, and the 14 bits sent are the window's. -/
theorem frameDistinctness : Obligations.FrameDistinctness := by
  intro c p
  refine ⟨frameOf_toggle c p, fun sel => ?_, fun sel sel' t => ?_, fun f g => ⟨fun h => ?_, fun h k hk => ?_⟩⟩
  · rw [frameOf_toggle]
    exact BitVec.add_right_eq_self.not
  · rw [frameOf_eq_addr_add, frameOf_eq_addr_add, BitVec.add_left_inj]
  · refine BitVec.eq_of_getLsbD_eq fun j hj => ?_
    have sent := h (13 - j) (by omega)
    rwa [sentBit_eq_frameWindow f (by omega), sentBit_eq_frameWindow g (by omega),
      Nat.sub_sub_self (Nat.le_of_lt_succ hj)] at sent
  · rw [sentBit_eq_frameWindow f hk, sentBit_eq_frameWindow g hk, h]

end Sys2Proof.Machine
end

section
/-! The detector and the rest of the machine: when it is re-enabled and its latch dropped, what a wired keypad shows it,
and which operations neither it nor `addr_sel` reaches (60_exceptions.md section 6, 10_state.md section 3). -/
namespace Sys2Proof.Machine

/-! ### Re-enabling and dropping (60_exceptions.md section 6) -/

/-- RESOLVE arms the detector only on its way to IDLE. -/
theorem resolve_arms_into_idle {s t : State} {p : EdgePol} {c : Cols} (arms : s.Arms .resolve p c)
    (h : s.Cycle .resolve t) : t.fsm = encode .idle := by
  cases h with
  | resolveNoMatch | resolveNoKey => rfl
  | resolveMatch m hm hk =>
    cases arms with
    | noMatch none => simp [hm] at none
    | noKey raised => simp [hk] at raised

/-- Settles O31: an operation performs one of the five armings, or the update of the cycle has its way, which neither
re-enables a detector nor drops a latch. -/
theorem oneShotDetector : Obligations.OneShotDetector := by
  intro i s t hx
  rcases exec_detector hx with ⟨p, c, arms, -⟩ | tracks
  · have place : i = .scanEnd ∨ (i = .resolve ∧ t.fsm = encode .idle) ∨ (i = .decideTx ∧ s.edgeLatch = true) := by
      cases i with
      | scanEnd => exact .inl rfl
      | resolve => exact .inr (.inl ⟨rfl, resolve_arms_into_idle arms (exec_eq_next_iff.mp hx)⟩)
      | decideTx => exact .inr (.inr ⟨rfl, by cases arms <;> assumption⟩)
      | _ => cases arms
    exact ⟨fun _ _ => place, fun _ _ => .inr (place.imp_right (.imp_right And.left))⟩
  · refine ⟨fun off on => ?_, fun latched dropped => ?_⟩
    · simp [tracks.enabled, off] at on
    · by_contra other
      have kept := tracks.latch fun hi => absurd (.inl hi) other
      simp [kept, latched] at dropped

/-! ### A wired keypad (rules R13, R27) -/

theorem one_shiftLeft_getLsbD {k c : Nat} (hc : c < 4) : (1#4 <<< k).getLsbD c = decide (k = c) := by
  rw [BitVec.getLsbD_shiftLeft, decide_eq_true hc, Bool.true_and, BitVec.getLsbD_one,
    decide_eq_true (by decide : 0 < 4), Bool.true_and, ← decide_not, ← Bool.decide_and]
  exact decide_eq_decide.mpr (by omega)

/-- A column is asserted exactly by the closed keys on it whose row line is driven. -/
theorem keyCols_getLsbD {drive : BitVec 6} {keys : List (Nat × Nat)} {c : Nat} (hc : c < 4) :
    (keyCols drive keys).getLsbD c = true ↔ ∃ r, drive.getLsbD r = true ∧ (r, c) ∈ keys := by
  induction keys with
  | nil => simp [keyCols]
  | cons k ks ih =>
    obtain ⟨r, c'⟩ := k
    have here : (if drive.getLsbD r then 1#4 <<< c' else 0).getLsbD c = true ↔ drive.getLsbD r = true ∧ c' = c := by
      cases drive.getLsbD r
      · simp
      · simp only [if_true, one_shiftLeft_getLsbD hc, decide_eq_true_eq, true_and]
    rw [keyCols, BitVec.getLsbD_or, Bool.or_eq_true, ih, here]
    simp only [List.mem_cons, Prod.mk.injEq, and_or_left, exists_or]
    refine or_congr_left ⟨fun ⟨driven, hcc⟩ => ⟨r, driven, rfl, hcc.symm⟩, ?_⟩
    rintro ⟨_, driven, rfl, rfl⟩
    exact ⟨driven, rfl⟩

theorem rowDrive_of_not_scanning {s : State} (h2 : s.fsm.toNat ≠ 2) (h3 : s.fsm.toNat ≠ 3) :
    s.rowDrive = 0b111111#6 := by
  refine if_neg ?_
  rintro (hf | hf)
  · exact h2 (congrArg BitVec.toNat hf)
  · exact h3 (congrArg BitVec.toNat hf)

/-- Every line there is. -/
theorem all_lines_getLsbD (r : Nat) : (0b111111#6).getLsbD r = decide (r < 6) := BitVec.getLsbD_allOnes

/-- Settles O32: while a row is scanned its line alone is driven, else all six are, and a closed key shows on its column
exactly when its line is. -/
theorem rowDriveSelectsKeys : Obligations.RowDriveSelectsKeys := by
  intro s keys c hc
  refine ⟨fun scanning hrow => ?_, fun h2 h3 => ?_⟩
  · have driven : ∀ r < 6, s.rowDrive.getLsbD r = decide (r = s.row.toNat) := by
      rcases scanning with hf | hf
      · exact (scanning_outputs (i := .scanDrive) (BitVec.eq_of_toNat_eq hf) (.inl rfl)).1
      · exact (scanning_outputs (i := .scanSample) (BitVec.eq_of_toNat_eq hf) (.inr rfl)).1
    refine ⟨driven, (keyCols_getLsbD hc).trans ⟨?_, fun closed => ⟨_, ?_, closed⟩⟩⟩
    · rintro ⟨r, line, closed⟩
      rw [driven r (BitVec.lt_of_getLsbD line), decide_eq_true_eq] at line
      exact line ▸ closed
    · rw [driven _ hrow, decide_eq_true rfl]
  · have all := rowDrive_of_not_scanning h2 h3
    refine ⟨all, ?_⟩
    rw [keyCols_getLsbD hc, all]
    simp only [all_lines_getLsbD, decide_eq_true_eq]

/-! ### `addr_sel` (41_resolve_encode.md section 3) -/

/-- `s` with other inputs to come. -/
def State.withStim (l : List Input) (s : State) : State := { s with stim := l }

/-- No branch but ENCODE's reads `addr_sel`: with another one in this cycle the same branch applies and writes the
same. -/
theorem cycle_withSel {s t : State} {i : Instr} {a : Input} {rest : List Input} (sel : BitVec 2) (hi : i ≠ .encode)
    (h : (s.withStim (a :: rest)).Cycle i t) :
    (s.withStim ({ a with sel := sel } :: rest)).Cycle i (t.withStim ({ a with sel := sel } :: rest)) := by
  cases h with
  | idleSleeps hl => exact .idleSleeps hl
  | idleWakes hl => exact .idleWakes hl
  | debounceCounts ht => exact .debounceCounts ht
  | debounceExpires ht => exact .debounceExpires ht
  | scanDriveCounts ht => exact .scanDriveCounts ht
  | scanDriveExpires ht => exact .scanDriveExpires ht
  | sampleLast hr => exact .sampleLast hr
  | sampleNext hr => exact .sampleNext hr
  | scanEnd => exact .scanEnd
  | resolveNoMatch hm => exact .resolveNoMatch hm
  | resolveNoKey m hm hk => exact .resolveNoKey m hm hk
  | resolveMatch m hm hk => exact .resolveMatch m hm hk
  | encode => exact absurd rfl hi
  | txLoad => exact .txLoad
  | segTicks ht => exact .segTicks ht
  | segFirstEnds ht hh => exact .segFirstEnds ht hh
  | segBitEnds ht hh hb => exact .segBitEnds ht hh hb
  | segFrameEnds ht hh hb => exact .segFrameEnds ht hh hb
  | txEnd => exact .txEnd
  | decideNoLatch hl => exact .decideNoLatch hl
  | decideHeld hl hc => exact .decideHeld hl hc
  | decideRelease hl hc => exact .decideRelease hl hc
  | interframeCounts ht => exact .interframeCounts ht
  | interframeExpires ht => exact .interframeExpires ht

/-- Settles O38: the branch taken with one selector is taken with any other. -/
theorem selectorReadOnlyByEncode : Obligations.SelectorReadOnlyByEncode := by
  intro i s t a rest sel hi hs hx
  have same : s = s.withStim (a :: rest) := by rw [State.withStim, ← hs]
  rw [same] at hx
  exact exec_of_cycle (cycle_withSel sel hi (exec_eq_next_iff.mp hx))

/-! ### Columns and detector (60_exceptions.md sections 5 and 6) -/

/-- `s` with other inputs to come and another detector. -/
def State.withDetector (l : List Input) (n : Nat) (en latch : Bool) (pol : EdgePol) (prev : Cols) (s : State) : State :=
  { s with stim := l, cycle := n, edgeEn := en, edgePol := pol, edgeLatch := latch, colPrev := prev }

/-- `t` and `t'` differ at most in the detector and the inputs to come. -/
def State.SameElsewhere (t t' : State) : Prop :=
  t'.withDetector t.stim t.cycle t.edgeEn t.edgeLatch t.edgePol t.colPrev = t

/-- The branches of the operations that read neither columns nor detector are guarded by other registers, and write the
others from these. -/
theorem cycle_withDetector {s t : State} {i : Instr} {l : List Input} {n : Nat} {en latch : Bool} {pol : EdgePol}
    {prev : Cols} (hi : i ∉ [Instr.idle, .scanSample, .resolve, .decideTx])
    (hsel : (s.withDetector l n en latch pol prev).selIn = s.selIn) (h : s.Cycle i t) :
    ∃ t', (s.withDetector l n en latch pol prev).Cycle i t' ∧ t.SameElsewhere t' := by
  cases h with
  | debounceCounts ht => exact ⟨_, .debounceCounts ht, rfl⟩
  | debounceExpires ht => exact ⟨_, .debounceExpires ht, rfl⟩
  | scanDriveCounts ht => exact ⟨_, .scanDriveCounts ht, rfl⟩
  | scanDriveExpires ht => exact ⟨_, .scanDriveExpires ht, rfl⟩
  | scanEnd => exact ⟨_, .scanEnd, rfl⟩
  | encode payload hp =>
    refine ⟨_, .encode payload hp, ?_⟩
    rw [hsel]
    rfl
  | txLoad => exact ⟨_, .txLoad, rfl⟩
  | segTicks ht => exact ⟨_, .segTicks ht, rfl⟩
  | segFirstEnds ht hh => exact ⟨_, .segFirstEnds ht hh, rfl⟩
  | segBitEnds ht hh hb => exact ⟨_, .segBitEnds ht hh hb, rfl⟩
  | segFrameEnds ht hh hb => exact ⟨_, .segFrameEnds ht hh hb, rfl⟩
  | txEnd => exact ⟨_, .txEnd, rfl⟩
  | interframeCounts ht => exact ⟨_, .interframeCounts ht, rfl⟩
  | interframeExpires ht => exact ⟨_, .interframeExpires ht, rfl⟩
  | idleSleeps | idleWakes | sampleLast | sampleNext | resolveNoMatch | resolveNoKey | resolveMatch | decideNoLatch
  | decideHeld | decideRelease =>
    simp at hi

/-- Settles O39: the branch taken with one detector is taken with any other. -/
theorem edgesNeverDisturbAWait : Obligations.EdgesNeverDisturbAWait := by
  rintro i s t l n en latch pol prev hi hx _ rfl hsel
  obtain ⟨t', cycle, same⟩ := cycle_withDetector hi hsel (exec_eq_next_iff.mp hx)
  exact ⟨t', exec_of_cycle cycle, same⟩

end Sys2Proof.Machine
end

section
/-! Runs with their operations: `Run ops s t`, how such runs compose, what they keep, and the shared waits as runs. -/
namespace Sys2Proof.Machine

/-- The cycles from `s` on perform exactly `ops`, one operation a cycle, and lead to `t`. -/
structure Run (ops : List Instr) (s t : State) : Prop where
  reaches : Reaches ops.length s t
  trace : opTrace ops.length s = ops

/-- An admitted configuration, and no reset in the next `n` cycles. -/
structure State.Ready (n : Nat) (s : State) : Prop where
  config : s.cfg.wf = true
  noReset : s.noReset n

theorem State.Ready.mono {m n : Nat} {s : State} (h : s.Ready n) (hm : m ≤ n) : s.Ready m :=
  ⟨h.config, noReset_mono h.noReset hm⟩

theorem State.Ready.now {n : Nat} {s : State} (h : s.Ready (n + 1)) : s.input.rst = false := noReset_now h.noReset

theorem State.Ready.next {n : Nat} {s t : State} (h : s.Ready (n + 1)) (hs : step s = .next t) : t.Ready n :=
  ⟨(congrArg Config.wf (step_keeps_environment hs).1).trans h.config,
    noReset_after (reaches_one hs) (Nat.add_comm _ _ ▸ h.noReset)⟩

/-! ### Composition -/

theorem run_nil (s : State) : Run [] s s := ⟨rfl, rfl⟩

theorem run_cycle {s t : State} {i : Instr} (h : s.Ready 1) (hf : s.fsm = encode i) (hc : s.Cycle i t) :
    Run [i] s t.advance := by
  have hstep := step_of_exec h.config h.now (decode_eq_ok_iff.mpr hf) (exec_of_cycle hc)
  exact ⟨reaches_one hstep, opTrace_succ (decode_eq_ok_iff.mpr hf) hstep⟩

theorem Run.append {ops ops' : List Instr} {s t u : State} (h : Run ops s t) (h' : Run ops' t u) :
    Run (ops ++ ops') s u := by
  refine ⟨?_, ?_⟩ <;> rw [List.length_append]
  · exact reaches_trans h.reaches h'.reaches
  · rw [opTrace_append h.reaches (by rw [h.trace]), h.trace, h'.trace]

theorem Run.ready {ops : List Instr} {s t : State} {n : Nat} (h : Run ops s t) (hr : s.Ready (ops.length + n)) :
    t.Ready n :=
  ⟨(congrArg Config.wf (reaches_keeps_environment h.reaches).1).trans hr.config, noReset_after h.reaches hr.noReset⟩

theorem Run.cfg {ops : List Instr} {s t : State} (h : Run ops s t) : t.cfg = s.cfg :=
  (reaches_keeps_environment h.reaches).1

/-- The columns at the end of a run are those the environment shows as many cycles after its start. -/
theorem Run.colIn {ops : List Instr} {s t : State} (h : Run ops s t) : t.colIn = s.colAt ops.length := by
  obtain ⟨cfg, inputs⟩ := reaches_keeps_environment h.reaches
  rw [← colAt_zero, State.colAt, State.colAt, cfg, inputs, Nat.add_zero]

theorem Run.reaches_of_length {ops : List Instr} {s t : State} {n : Nat} (h : Run ops s t) (hn : n = ops.length) :
    Reaches n s t := hn ▸ h.reaches

theorem Run.trace_of_length {ops : List Instr} {s t : State} {n : Nat} (h : Run ops s t) (hn : n = ops.length) :
    opTrace n s = ops := hn ▸ h.trace

/-- The first cycle of a run is a branch of its first operation. -/
theorem Run.uncons {i : Instr} {ops : List Instr} {s t : State} (h : Run (i :: ops) s t) (hr : s.input.rst = false) :
    ∃ u, s.Cycle i u ∧ step s = .next u.advance ∧ Run ops u.advance t := by
  obtain ⟨v, hv, rest⟩ := reaches_succ.mp h.reaches
  obtain ⟨-, ⟨reset, -⟩ | ⟨-, j, u, hd, hx, rfl⟩⟩ := step_cases hv
  · rw [hr] at reset
    cases reset
  · have trace := (opTrace_succ hd hv).symm.trans h.trace
    obtain ⟨rfl, rest'⟩ := List.cons.inj trace
    exact ⟨u, exec_eq_next_iff.mp hx, hv, rest, rest'⟩

/-- What is left of a run after a part of it. -/
theorem reaches_rest {m n : Nat} {s t u : State} (h : Reaches m s t) (h' : Reaches (m + n) s u) : Reaches n t u := by
  induction m generalizing s with
  | zero =>
    obtain rfl := reaches_zero.mp h
    rwa [Nat.zero_add] at h'
  | succ m ih =>
    obtain ⟨v, hv, rest⟩ := reaches_succ.mp h
    rw [Nat.add_right_comm] at h'
    obtain ⟨w, hw, rest'⟩ := reaches_succ.mp h'
    obtain rfl : v = w := Host.Outcome.next.inj (hv.symm.trans hw)
    exact ih rest rest'

/-! ### What a run keeps -/

/-- What every operation of a run keeps holds in each of its states. -/
theorem run_keeps_throughout {P : State → Prop} {ops : List Instr} {s t : State}
    (hP : ∀ i ∈ ops, ∀ u v, State.Cycle u i v → P u → P v.advance) (h : Run ops s t) (hr : s.Ready ops.length)
    (hs : P s) : ∀ m ≤ ops.length, ∀ u, Reaches m s u → P u := by
  intro m hm u hu
  induction ops generalizing s m with
  | nil =>
    obtain rfl := Nat.le_zero.mp hm
    exact reaches_zero.mp hu ▸ hs
  | cons i ops ih =>
    cases m with
    | zero => exact reaches_zero.mp hu ▸ hs
    | succ m =>
      obtain ⟨v, cycle, hv, rest⟩ := h.uncons hr.now
      obtain ⟨w, hw, hu⟩ := reaches_succ.mp hu
      obtain rfl : v.advance = w := Host.Outcome.next.inj (hv.symm.trans hw)
      exact ih (fun j hj => hP j (List.mem_cons_of_mem i hj)) rest (hr.next hv)
        (hP i List.mem_cons_self s v cycle hs) m (Nat.le_of_succ_le_succ hm) hu

theorem run_keeps {P : State → Prop} {ops : List Instr} {s t : State}
    (hP : ∀ i ∈ ops, ∀ u v, State.Cycle u i v → P u → P v.advance) (h : Run ops s t) (hr : s.Ready ops.length)
    (hs : P s) : P t :=
  run_keeps_throughout hP h hr hs ops.length (Nat.le_refl _) t h.reaches

/-- What cycles of the operations in `ops` leave unchanged, by the 'written by' columns of rule R14. -/
structure State.Unwritten (ops : List Instr) (s t : State) : Prop where
  row : (∀ i ∈ ops, i ∉ [Instr.debounce, .scanSample, .scanEnd]) → t.row = s.row
  raw : (∀ i ∈ ops, i ∉ [Instr.idle, .scanSample]) → t.raw = s.raw
  keyIdx : (∀ i ∈ ops, i ∉ [Instr.idle, .resolve]) → t.keyIdx = s.keyIdx
  errNokey : (∀ i ∈ ops, i ∉ [Instr.idle, .scanEnd]) → t.errNokey = s.errNokey
  errNomatch : (∀ i ∈ ops, i ∉ [Instr.idle, .resolve]) → t.errNomatch = s.errNomatch
  heldDown : (∀ i ∈ ops, i ∉ [Instr.encode, .decideTx]) → t.heldDown = s.heldDown
  toggle : (∀ i ∈ ops, i ∉ [Instr.decideTx]) → t.toggle = s.toggle
  frame : (∀ i ∈ ops, i ∉ [Instr.encode]) → t.frame = s.frame
  edgePol : (∀ i ∈ ops, i ∉ [Instr.scanEnd, .resolve, .decideTx]) → t.edgePol = s.edgePol

theorem unwritten_step {ops : List Instr} {i : Instr} (hi : i ∈ ops) {s t u : State} (h : t.Cycle i u)
    (f : s.Unwritten ops t) : s.Unwritten ops u.advance := by
  have g := cycle_frame h
  exact
    { row := fun w => (g.row (w i hi)).trans (f.row w)
      raw := fun w => (g.raw (w i hi)).trans (f.raw w)
      keyIdx := fun w => (g.keyIdx (w i hi)).trans (f.keyIdx w)
      errNokey := fun w => (g.errNokey (w i hi)).trans (f.errNokey w)
      errNomatch := fun w => (g.errNomatch (w i hi)).trans (f.errNomatch w)
      heldDown := fun w => (g.heldDown (w i hi)).trans (f.heldDown w)
      toggle := fun w => (g.toggle (w i hi)).trans (f.toggle w)
      frame := fun w => (g.frame (w i hi)).trans (f.frame w)
      edgePol := fun w => (g.edgePol (w i hi)).trans (f.edgePol w) }

/-- A run of operations among `among` leaves unchanged what none of these writes. -/
theorem run_unwritten {ops among : List Instr} {s t : State} (h : Run ops s t) (hr : s.Ready ops.length)
    (hops : ∀ i ∈ ops, i ∈ among) : s.Unwritten among t := by
  refine run_keeps (P := s.Unwritten among) (fun i hi u v cycle => unwritten_step (hops i hi) cycle) h hr ?_
  constructor <;> exact fun _ => rfl

/-- The toggle stays in each state of a run without DECIDE. -/
theorem run_keeps_toggle {ops : List Instr} {s t : State} (h : Run ops s t) (hr : s.Ready ops.length)
    (hops : .decideTx ∉ ops) : ∀ m ≤ ops.length, ∀ u, Reaches m s u → u.toggle = s.toggle := by
  refine run_keeps_throughout (P := fun u => u.toggle = s.toggle) (fun i hi u v cycle same => ?_) h hr rfl
  have other : i ∉ [Instr.decideTx] := by
    rw [List.mem_singleton]
    rintro rfl
    exact hops hi
  exact ((cycle_frame cycle).toggle other).trans same

/-! ### Waits -/

/-- A wait as a run: its last cycle starts in `t` with the timer at 1, and leaves what the operation's expiry branch
leaves. -/
theorem exists_wait_run {i : Instr} (hi : i ∈ waitingOps) {s : State} (hr : s.Ready s.tmr) (hf : s.fsm = encode i)
    (hn : 1 ≤ s.tmr) :
    ∃ t u, Run (List.replicate (s.tmr - 1) i) s t ∧ t.tmr = 1 ∧ t.Cycle i u ∧
      Run (List.replicate s.tmr i) s u.advance := by
  obtain ⟨t, u, w, hx, reaches, trace⟩ := wait_ends hi hr.config hf hn hr.noReset
  refine ⟨t, u, ⟨?_, ?_⟩, ?_, exec_eq_next_iff.mp hx, ?_, ?_⟩
  · rw [List.length_replicate]; exact w.reaches
  · rw [List.length_replicate]; exact w.trace
  · rw [w.tmr]; omega
  · rw [List.length_replicate]; exact reaches
  · rw [List.length_replicate]; exact trace

/-- A wait that ends by a change of operation, as a run. -/
theorem exists_run_to_successor {i j : Instr} (hij : (i, j) ∈ waitSuccessors) {s : State} (hr : s.Ready s.tmr)
    (hf : s.fsm = encode i) (hn : 1 ≤ s.tmr) :
    ∃ t, Run (List.replicate s.tmr i) s t ∧ t.fsm = encode j ∧ s.Unwritten [i] t := by
  obtain ⟨t, u, -, ht, cycle, run⟩ := exists_wait_run (mem_waitingOps_of_mem_waitSuccessors hij) hr hf hn
  have successor : u.fsm = encode j := exec_expired hij ht.le (exec_of_cycle cycle)
  refine ⟨u.advance, run, successor, run_unwritten run ?_ ?_⟩
  · rwa [List.length_replicate]
  · exact fun k hk => List.mem_singleton.mpr (List.eq_of_mem_replicate hk)

end Sys2Proof.Machine
end

section
/-! The sweep of a press cycle (40_scan.md rules R61 to R64): what the samples gather, then the run from the waking IDLE
to RESOLVE, row by row. -/
namespace Sys2Proof.Machine

/-! ### What the samples gather (rules R49, R63) -/

/-- What the sample `c` of row `r` adds to the RawScanCode. -/
def sampleCode (r : Nat) (c : Cols) : Byte := if c = 0 then 0 else BitVec.ofNat 8 r ||| colField c

theorem sweepOr_cons (r : Nat) (c : Cols) (cs : List Cols) :
    sweepOr r (c :: cs) = sampleCode r c ||| sweepOr (r + 1) cs := rfl

theorem sweepOr_append_singleton (r : Nat) (cs : List Cols) (c : Cols) :
    sweepOr r (cs ++ [c]) = sweepOr r cs ||| sampleCode (r + cs.length) c := by
  induction cs generalizing r with
  | nil => simp [sweepOr, sampleCode, colField]
  | cons d ds ih =>
    rw [List.cons_append, sweepOr_cons, sweepOr_cons, ih, BitVec.or_assoc, List.length_cons, Nat.add_right_comm,
      Nat.add_assoc]

theorem accumulate_eq_or (raw : Byte) (r : RowNum) (c : Cols) :
    accumulate raw r c = raw ||| sampleCode r.toNat c := by
  unfold accumulate sampleCode
  by_cases hc : c = 0
  · simp [hc]
  · rw [if_pos hc, if_neg hc, rowCode_eq_ofNat, BitVec.or_assoc]

theorem sampleCode_eq_zero_iff (r : Nat) (c : Cols) : sampleCode r c = 0 ↔ c = 0 := by
  have field : ∀ c : Cols, colField c = 0 → c = 0 := by decide
  unfold sampleCode
  split
  next hc => exact iff_of_true rfl hc
  next hc => exact iff_of_false (fun h => hc (field c (BitVec.or_eq_zero_iff.mp h).2)) hc

/-- Nothing is gathered exactly when no sample shows a column (rule R63). -/
theorem sweepOr_eq_zero_iff (r : Nat) (cs : List Cols) : sweepOr r cs = 0 ↔ ∀ c ∈ cs, c = 0 := by
  induction cs generalizing r with
  | nil => simp [sweepOr]
  | cons c cs ih =>
    rw [sweepOr_cons, List.forall_mem_cons, ← sampleCode_eq_zero_iff r c, ← ih (r + 1)]
    exact BitVec.or_eq_zero_iff

/-! ### The rows (rules R59, R61) -/

/-- The operations of one row. -/
def rowOps (c : Config) : List Instr := List.replicate c.rowSettle .scanDrive ++ [.scanSample]

/-- The operations from the first DEBOUNCE on until row `r` is driven. -/
def opsToRow (c : Config) (r : Nat) : List Instr := debounceOps c ++ (List.replicate r (rowOps c)).flatten

theorem opsToRow_succ (c : Config) (r : Nat) : opsToRow c (r + 1) = opsToRow c r ++ rowOps c := by
  rw [opsToRow, opsToRow, List.replicate_succ', List.flatten_append, List.append_assoc]
  simp

theorem length_rowOps (c : Config) : (rowOps c).length = c.rowSettle + 1 := by simp [rowOps]

theorem length_opsToRow (c : Config) (r : Nat) : (opsToRow c r).length = c.debounce + r * (c.rowSettle + 1) := by
  simp [opsToRow, debounceOps, length_rowOps]

theorem opsToRow_six (c : Config) : debounceOps c ++ scanOps c = opsToRow c 6 ++ [.scanEnd] :=
  (List.append_assoc _ _ _).symm

theorem mem_opsToRow {c : Config} {r : Nat} {i : Instr} (h : i ∈ opsToRow c r) :
    i ∈ [Instr.debounce, .scanDrive, .scanSample] := by
  simp only [opsToRow, debounceOps, rowOps, List.mem_append, List.mem_flatten, List.mem_replicate] at h
  rcases h with ⟨-, rfl⟩ | ⟨l, ⟨-, rfl⟩, h⟩
  · decide
  · simp only [List.mem_append, List.mem_replicate, List.mem_singleton] at h
    rcases h with ⟨-, rfl⟩ | rfl <;> decide

/-- The sample of row `r`, counted from the first DEBOUNCE cycle on (rule R64). -/
def State.rowSample (s : State) (r : Nat) : Cols :=
  s.colAt (s.cfg.debounce + r * (s.cfg.rowSettle + 1) + s.cfg.rowSettle)

/-- The samples of the first `r` rows. -/
def State.rowSamples (s : State) (r : Nat) : List Cols := (List.range r).map s.rowSample

theorem sweepOr_rowSamples_succ (s : State) (r : Nat) :
    sweepOr 0 (s.rowSamples (r + 1)) = sweepOr 0 (s.rowSamples r) ||| sampleCode r (s.rowSample r) := by
  rw [State.rowSamples, List.range_succ, List.map_append, List.map_singleton, sweepOr_append_singleton]
  simp [State.rowSamples]

/-- `t` is the state in which row `r` starts to be driven, in the sweep whose DEBOUNCE started in `s`. -/
structure State.DrivesRow (s : State) (r : Nat) (t : State) : Prop where
  run : Run (opsToRow s.cfg r) s t
  fsm : t.fsm = encode .scanDrive
  row : t.row.toNat = r
  tmr : t.tmr = s.cfg.rowSettle
  raw : t.raw = sweepOr 0 (s.rowSamples r)

/-- `t` is the state in which row `r` is sampled. -/
structure State.SamplesRow (s : State) (r : Nat) (t : State) : Prop where
  run : Run (opsToRow s.cfg r ++ List.replicate s.cfg.rowSettle .scanDrive) s t
  fsm : t.fsm = encode .scanSample
  row : t.row.toNat = r
  raw : t.raw = sweepOr 0 (s.rowSamples r)

/-- A press cycle about to be swept: DEBOUNCE starts with nothing gathered, and no reset falls before SCAN_END. -/
structure State.SweepStarts (s : State) : Prop where
  ready : s.Ready (s.cfg.debounce + 6 * (s.cfg.rowSettle + 1))
  fsm : s.fsm = encode .debounce
  tmr : s.tmr = s.cfg.debounce
  raw : s.raw = 0

theorem exists_drivesRow_zero {s : State} (h : s.SweepStarts) : ∃ t, s.DrivesRow 0 t := by
  obtain ⟨-, -, ⟨-, -, -, -, positive, -⟩, -⟩ := wf_numbers h.ready.config
  have ready : s.Ready s.tmr := h.ready.mono (by rw [h.tmr]; omega)
  obtain ⟨t, u, -, ht, cycle, run⟩ := exists_wait_run (i := .debounce) (by decide) ready h.fsm (h.tmr ▸ positive)
  rw [h.tmr] at run
  have ops : opsToRow s.cfg 0 = List.replicate s.cfg.debounce .debounce := List.append_nil _
  have rest := run_unwritten run (by rw [List.length_replicate]; exact h.tmr ▸ ready)
    (among := [.debounce]) fun k hk => List.mem_singleton.mpr (List.eq_of_mem_replicate hk)
  have raw : u.raw = s.raw := rest.raw (by decide)
  have cfg : t.cfg = s.cfg := (exec_frame (exec_of_cycle cycle)).cfg.symm.trans run.cfg
  rw [← ops] at run
  cases cycle with
  | debounceCounts more => omega
  | debounceExpires => exact ⟨_, run, rfl, rfl, congrArg Config.rowSettle cfg, raw.trans h.raw⟩

theorem exists_samplesRow {s t : State} {r : Nat} (h : s.SweepStarts) (hr : r < 6) (d : s.DrivesRow r t) :
    ∃ u, s.SamplesRow r u := by
  obtain ⟨-, -, ⟨-, -, -, -, -, -, positive⟩, -⟩ := wf_numbers h.ready.config
  have rows : (r + 1) * (s.cfg.rowSettle + 1) ≤ 6 * (s.cfg.rowSettle + 1) := Nat.mul_le_mul_right _ hr
  have ready : t.Ready t.tmr := d.run.ready (h.ready.mono (by
    rw [length_opsToRow, d.tmr]
    rw [Nat.add_mul] at rows
    omega))
  obtain ⟨u, run, fsm, rest⟩ := exists_run_to_successor (i := .scanDrive) (j := .scanSample) (by decide) ready d.fsm
    (d.tmr ▸ positive)
  rw [d.tmr] at run
  exact ⟨u, d.run.append run, fsm, (congrArg BitVec.toNat (rest.row (by decide))).trans d.row,
    (rest.raw (by decide)).trans d.raw⟩

/-- What the cycle that samples row `r` leaves in `raw`, with the run up to its end. -/
theorem sample_run {s t u : State} {r : Nat} (h : s.SweepStarts) (hr : r < 6) (d : s.SamplesRow r t)
    (cycle : t.Cycle .scanSample u) :
    Run (opsToRow s.cfg (r + 1)) s u.advance ∧ accumulate t.raw t.row t.colIn = sweepOr 0 (s.rowSamples (r + 1)) := by
  have rows : (r + 1) * (s.cfg.rowSettle + 1) ≤ 6 * (s.cfg.rowSettle + 1) := Nat.mul_le_mul_right _ hr
  have length : (opsToRow s.cfg r ++ List.replicate s.cfg.rowSettle Instr.scanDrive).length =
      s.cfg.debounce + r * (s.cfg.rowSettle + 1) + s.cfg.rowSettle := by
    rw [List.length_append, length_opsToRow, List.length_replicate]
  have ready : t.Ready 1 := d.run.ready (h.ready.mono (by
    rw [length]
    rw [Nat.add_mul] at rows
    omega))
  have sample : t.colIn = s.rowSample r := by rw [d.run.colIn, length, State.rowSample]
  refine ⟨?_, ?_⟩
  · rw [opsToRow_succ, rowOps, ← List.append_assoc]
    exact d.run.append (run_cycle ready d.fsm cycle)
  · rw [accumulate_eq_or, sweepOr_rowSamples_succ, d.raw, d.row, sample]

theorem exists_drivesRow_succ {s t : State} {r : Nat} (h : s.SweepStarts) (hr : r < 5) (d : s.SamplesRow r t) :
    ∃ u, s.DrivesRow (r + 1) u := by
  have notLast : t.row.toNat ≠ 5 := by rw [d.row]; omega
  obtain ⟨run, raw⟩ := sample_run h (Nat.lt_succ_of_lt hr) d (.sampleNext notLast)
  have row : (t.row + 1).toNat = r + 1 := by
    have := d.row
    bv_omega
  exact ⟨_, run, rfl, row, congrArg Config.rowSettle d.run.cfg, raw⟩

theorem exists_drivesRow {s : State} (h : s.SweepStarts) {r : Nat} (hr : r < 6) : ∃ t, s.DrivesRow r t := by
  induction r with
  | zero => exact exists_drivesRow_zero h
  | succ r ih =>
    obtain ⟨t, drives⟩ := ih (Nat.lt_of_succ_lt hr)
    obtain ⟨u, samples⟩ := exists_samplesRow h (Nat.lt_of_succ_lt hr) drives
    exact exists_drivesRow_succ h (Nat.lt_of_succ_lt_succ hr) samples

theorem exists_samplesRow_of_lt {s : State} (h : s.SweepStarts) {r : Nat} (hr : r < 6) : ∃ t, s.SamplesRow r t := by
  obtain ⟨t, drives⟩ := exists_drivesRow h hr
  exact exists_samplesRow h hr drives

/-- After the sample of row 5 the sweep is complete (rule R64). -/
theorem exists_sweep_run {s : State} (h : s.SweepStarts) :
    ∃ t, Run (opsToRow s.cfg 6) s t ∧ t.fsm = encode .scanEnd ∧ t.row = 5 ∧ t.raw = sweepOr 0 (s.rowSamples 6) ∧
      s.Unwritten [.debounce, .scanDrive, .scanSample] t := by
  obtain ⟨t, samples⟩ := exists_samplesRow_of_lt h (r := 5) (by decide)
  obtain ⟨run, raw⟩ := sample_run h (by decide) samples (.sampleLast samples.row)
  refine ⟨_, run, rfl, BitVec.eq_of_toNat_eq samples.row, raw, run_unwritten run ?_ fun i hi => mem_opsToRow hi⟩
  rw [length_opsToRow]
  exact h.ready

end Sys2Proof.Machine
end

section
/-! Press cycles (40_scan.md, 41_resolve_encode.md): from the waking IDLE to RESOLVE, and from there to the key's frame
or back to IDLE. -/
namespace Sys2Proof.Machine

/-! ### From the waking IDLE to RESOLVE -/

theorem colAt_of_step {s t : State} (h : step s = .next t) (k : Nat) : t.colAt k = s.colAt (k + 1) := by
  obtain ⟨cfg, inputs⟩ := step_keeps_environment h
  rw [State.colAt, State.colAt, cfg, inputs]

/-- The samples of a press cycle, counted from its first DEBOUNCE cycle on. -/
theorem sweepSamples_eq_rowSamples {s t : State} (h : step s = .next t) : s.sweepSamples = t.rowSamples 6 := by
  obtain ⟨cfg, -⟩ := step_keeps_environment h
  refine List.map_congr_left fun r _ => ?_
  rw [State.rowSample, colAt_of_step h, cfg, Nat.add_one_mul r]
  congr 1
  omega

/-- Cycles from the waking IDLE to SCAN_END (rule R64). -/
def sweepCycles (c : Config) : Nat := c.debounce + 6 * (c.rowSettle + 1) + 1

theorem length_idle_opsToRow (c : Config) : (.idle :: opsToRow c 6).length = sweepCycles c := by
  rw [List.length_cons, length_opsToRow, sweepCycles]

/-- The waking IDLE starts a sweep. -/
theorem sweepStarts_of_wakesTo {s t : State} (hr : s.Ready (sweepCycles s.cfg)) (w : s.WakesTo t) : t.SweepStarts := by
  obtain ⟨cfg, -⟩ := step_keeps_environment w.step
  refine ⟨?_, w.fsm, cfg ▸ w.tmr, w.raw⟩
  rw [cfg]
  exact hr.next w.step

theorem run_of_wakesTo {s t : State} (hf : s.fsm = encode .idle) (w : s.WakesTo t) :
    Run [.idle] s t :=
  ⟨reaches_one w.step, opTrace_succ (decode_eq_ok_iff.mpr hf) w.step⟩

/-- `t` is SCAN_END of the press cycle that the waking IDLE `s` starts. -/
structure State.Gathers (s t : State) : Prop where
  run : Run (.idle :: opsToRow s.cfg 6) s t
  fsm : t.fsm = encode .scanEnd
  row : t.row = 5
  raw : t.raw = sweepOr 0 s.sweepSamples
  keyIdx : t.keyIdx = keySentinel
  errNokey : t.errNokey = false
  errNomatch : t.errNomatch = false
  toggle : t.toggle = s.toggle
  frame : t.frame = s.frame

theorem exists_gathers {s : State} (hr : s.Ready (sweepCycles s.cfg)) (hf : s.fsm = encode .idle)
    (hl : s.edgeLatch = true) : ∃ t, s.Gathers t := by
  have first : s.Ready 1 := hr.mono (Nat.le_add_left _ _)
  obtain ⟨u, w⟩ := exists_wakesTo hr.config first.now hf hl
  obtain ⟨t, run, fsm, row, raw, rest⟩ := exists_sweep_run (sweepStarts_of_wakesTo hr w)
  obtain ⟨cfg, -⟩ := step_keeps_environment w.step
  rw [cfg] at run
  exact ⟨t,
    { run := (run_of_wakesTo hf w).append run
      fsm := fsm
      row := row
      raw := by rw [raw, sweepSamples_eq_rowSamples w.step]
      keyIdx := (rest.keyIdx (by decide)).trans w.keyIdx
      errNokey := (rest.errNokey (by decide)).trans w.errNokey
      errNomatch := (rest.errNomatch (by decide)).trans w.errNomatch
      toggle := (rest.toggle (by decide)).trans w.toggle
      frame := (rest.frame (by decide)).trans w.frame }⟩

/-- The operations from the waking IDLE to RESOLVE. -/
def pressOps (c : Config) : List Instr := [.idle] ++ debounceOps c ++ scanOps c

theorem pressOps_eq (c : Config) : pressOps c = (.idle :: opsToRow c 6) ++ [.scanEnd] := by
  rw [pressOps, List.append_assoc, opsToRow_six]
  rfl

theorem length_pressOps (c : Config) : (pressOps c).length = sweepCycles c + 1 := by
  rw [pressOps_eq, List.length_append, length_idle_opsToRow, List.length_singleton]

theorem mem_pressOps {c : Config} {i : Instr} (h : i ∈ pressOps c) :
    i ∈ [Instr.idle, .debounce, .scanDrive, .scanSample, .scanEnd] := by
  rw [pressOps_eq, List.mem_append, List.mem_cons, List.mem_singleton] at h
  rcases h with (rfl | h) | rfl
  · decide
  · exact List.mem_cons_of_mem _ (List.mem_append_left _ (mem_opsToRow h))
  · decide

/-- `t` is RESOLVE of the press cycle that the waking IDLE `s` starts. -/
structure State.Resolves (s t : State) : Prop where
  run : Run (pressOps s.cfg) s t
  fsm : t.fsm = encode .resolve
  raw : t.raw = sweepOr 0 s.sweepSamples
  errNokey : t.errNokey = true ↔ t.raw = 0
  toggle : t.toggle = s.toggle
  frame : t.frame = s.frame

theorem exists_resolves {s : State} (hr : s.Ready (sweepCycles s.cfg + 1)) (hf : s.fsm = encode .idle)
    (hl : s.edgeLatch = true) : ∃ t, s.Resolves t := by
  obtain ⟨t, g⟩ := exists_gathers (hr.mono (Nat.le_succ _)) hf hl
  have ready : t.Ready 1 := g.run.ready (length_idle_opsToRow s.cfg ▸ hr)
  have run := g.run.append (run_cycle ready g.fsm .scanEnd)
  rw [← pressOps_eq] at run
  refine ⟨_, run, rfl, g.raw, ?_, g.toggle, g.frame⟩
  simp [g.errNokey]

/-- Settles O45: the two states are SCAN_END and RESOLVE of the press cycle, and `raw` is 0 exactly when every sample
is. -/
theorem sweepBuildsScanCode : Obligations.SweepBuildsScanCode := by
  rintro s _ hc hf hl rfl hr
  obtain ⟨t, g⟩ := exists_gathers ⟨hc, noReset_mono hr (Nat.le_succ _)⟩ hf hl
  obtain ⟨u, r⟩ := exists_resolves ⟨hc, hr⟩ hf hl
  refine ⟨r.run.trace_of_length (length_pressOps s.cfg).symm, ⟨t, ?_, g.fsm, g.raw, g.row, g.keyIdx, g.errNokey,
    g.errNomatch, g.toggle, g.frame⟩, u, ?_, r.fsm, r.raw, ?_⟩
  · exact g.run.reaches_of_length (length_idle_opsToRow s.cfg).symm
  · exact r.run.reaches_of_length (length_pressOps s.cfg).symm
  · rw [r.errNokey, r.raw, sweepOr_eq_zero_iff]

/-! ### A single wired key -/

/-- A key at (r, c) shows on column c in the sample of row r and in no other. -/
theorem sweepOr_single_key : ∀ r < 6, ∀ c < 4,
    sweepOr 0 ((List.range 6).map fun r' => keyCols (onehot6 (BitVec.ofNat 3 r')) [(r, c)]) =
      BitVec.ofNat 8 (2 ^ (4 + c)) ||| BitVec.ofNat 8 r := by
  decide

theorem single_key_code_ne_zero : ∀ r < 6, ∀ c < 4, BitVec.ofNat 8 (2 ^ (4 + c)) ||| BitVec.ofNat 8 r ≠ 0#8 := by
  decide

/-- In the cycle of its sample the line of row `r` is driven (rules R27, R64). -/
theorem exists_row_sampled {s : State} (hr : s.Ready (sweepCycles s.cfg)) (hf : s.fsm = encode .idle)
    (hl : s.edgeLatch = true) {r : Nat} (hlt : r < 6) :
    ∃ v, Reaches (s.cfg.debounce + (r + 1) * (s.cfg.rowSettle + 1)) s v ∧ v.fsm = encode .scanSample ∧
      v.row.toNat = r ∧ v.rowDrive = onehot6 (BitVec.ofNat 3 r) := by
  have first : s.Ready 1 := hr.mono (Nat.le_add_left _ _)
  obtain ⟨u, w⟩ := exists_wakesTo hr.config first.now hf hl
  obtain ⟨v, d⟩ := exists_samplesRow_of_lt (sweepStarts_of_wakesTo hr w) hlt
  obtain ⟨cfg, -⟩ := step_keeps_environment w.step
  refine ⟨v, ((run_of_wakesTo hf w).append d.run).reaches_of_length ?_, d.fsm, d.row, ?_⟩
  · simp only [List.length_append, List.length_singleton, length_opsToRow, List.length_replicate, cfg]
    rw [Nat.add_one_mul r]
    omega
  · rw [rowDrive_of_op d.fsm, if_pos (.inr rfl), ← d.row, BitVec.ofNat_toNat, BitVec.setWidth_eq]

/-- Settles O46: the samples are those of the key, whose code is not 0, so no NoKey is raised. -/
theorem singleKeyScanCode : Obligations.SingleKeyScanCode := by
  rintro s r c _ hr hcol hc hf hl rfl hreset shown
  obtain ⟨⟨-, ncols⟩, -⟩ := wf_numbers hc
  have hc4 : c < 4 := Nat.lt_of_lt_of_le hcol ncols
  have code : sweepOr 0 s.sweepSamples = BitVec.ofNat 8 (2 ^ (4 + c)) ||| BitVec.ofNat 8 r := by
    rw [← sweepOr_single_key r hr c hc4, State.sweepSamples]
    congr 1
    exact List.map_congr_left fun r' hr' => shown r' (List.mem_range.mp hr')
  have nonzero := single_key_code_ne_zero r hr c hc4
  have ready : s.Ready (sweepCycles s.cfg + 1) := ⟨hc, hreset⟩
  obtain ⟨t, g⟩ := exists_gathers (ready.mono (Nat.le_succ _)) hf hl
  obtain ⟨u, q⟩ := exists_resolves ready hf hl
  refine ⟨⟨t, g.run.reaches_of_length (length_idle_opsToRow s.cfg).symm, g.fsm, g.raw.trans code, ?_⟩,
    fun r' hr' => exists_row_sampled (ready.mono (Nat.le_succ _)) hf hl hr',
    u, q.run.reaches_of_length (length_pressOps s.cfg).symm, q.fsm, q.raw.trans code, ?_⟩
  · rw [g.raw, code]
    exact nonzero
  · rw [← Bool.not_eq_true, q.errNokey, q.raw, code]
    exact nonzero

/-! ### From RESOLVE on -/

/-- RESOLVE with a code of the table, ENCODE and TX_LOAD: the key's frame starts (rules R68, R70, R73). -/
theorem exists_frame_start {s : State} {i : Nat} (hi : i < 24) (hr : s.Ready 3) (hf : s.fsm = encode .resolve)
    (hk : s.errNokey = false) (hraw : s.raw = s.cfg.keyTable[i]) :
    ∃ t, Run [.resolve, .encode, .txLoad] s t ∧ t.fsm = encode .txSeg ∧ t.keyIdx.toNat = i ∧ t.heldDown = true ∧
      t.toggle = s.toggle ∧ t.bitcnt = 0 ∧ t.half = false ∧ t.shreg = t.frame ∧
      t.frame = frameOf s.cfg s.cfg.funcTable[i] (s.inputAt 1).sel s.toggle := by
  have hm : lastMatch s.cfg s.raw = some i := hraw ▸ lastMatch_of_entry hr.config hi
  have index := toNat_ofNat_of_match hm
  have payload : memRead s.cfg.funcTable (BitVec.ofNat 5 i).toNat = some s.cfg.funcTable[i] :=
    index.symm ▸ memRead_of_lt hi
  have resolve := run_cycle (hr.mono (by decide)) hf (.resolveMatch i hm hk)
  have ready := resolve.ready (n := 2) hr
  have pack := run_cycle (ready.mono (by decide)) rfl (.encode s.cfg.funcTable[i] payload)
  have load := run_cycle (pack.ready (n := 1) ready) rfl .txLoad
  have selector := congrArg Input.sel ((reaches_keeps_environment resolve.reaches).2 0)
  rw [inputAt_zero] at selector
  exact ⟨_, resolve.append (pack.append load), rfl, index, rfl, rfl, rfl, rfl, rfl,
    congrArg (fun sel => frameOf s.cfg s.cfg.funcTable[i] sel s.toggle) selector⟩

/-- Settles O50: the press cycle reaches RESOLVE with the key's code and no NoKey, and its frame starts three cycles
later. -/
theorem pressSendsItsFrame : Obligations.PressSendsItsFrame := by
  rintro s i _ hi hs hf hl rfl hr code ⟨c, hc, shown⟩
  have length : s.cfg.debounce + 6 * s.cfg.rowSettle + 11 = (pressOps s.cfg).length + 3 := by
    rw [length_pressOps, sweepCycles]
    omega
  obtain ⟨b, -⟩ := hs
  have ready : s.Ready ((pressOps s.cfg).length + 3) := ⟨b.config, length ▸ hr⟩
  obtain ⟨u, q⟩ := exists_resolves (length_pressOps s.cfg ▸ ready.mono (Nat.le_add_right _ _)) hf hl
  have noError : u.errNokey = false := by
    rw [← Bool.not_eq_true, q.errNokey, q.raw, sweepOr_eq_zero_iff]
    exact fun none => shown (none c hc)
  have cfg := q.run.cfg
  obtain ⟨t, run, fsm, index, held, toggle, bitcnt, half, shreg, frame⟩ :=
    exists_frame_start hi (q.run.ready ready) q.fsm noError (by rw [q.raw, code]; simp only [cfg])
  refine ⟨t, (q.run.append run).reaches_of_length ?_, fsm, index, held, toggle.trans q.toggle, bitcnt, half, shreg, ?_⟩
  · rw [List.length_append]
    exact length
  · rw [frame, q.toggle, (reaches_keeps_environment q.run.reaches).2]
    simp only [cfg, length]
    rfl

/-- RESOLVE with a code of no key exits to IDLE with an error recorded, armed for a press (rules R68, R87, R89). -/
theorem exists_error_exit {s : State} (hr : s.Ready 1) (hf : s.fsm = encode .resolve)
    (h : s.errNokey = true ∨ lastMatch s.cfg s.raw = none) :
    ∃ t, Run [.resolve] s t ∧ t.fsm = encode .idle ∧ t.frame = s.frame ∧ t.toggle = s.toggle ∧
      t.heldDown = s.heldDown ∧ t.err ≠ 0b00 ∧ t.edgeEn = true ∧ t.edgePol = .rise := by
  cases hm : lastMatch s.cfg s.raw with
  | none =>
    refine ⟨_, run_cycle hr hf (.resolveNoMatch hm), rfl, rfl, rfl, rfl, ?_, rfl, rfl⟩
    rw [Ne, err_eq_zero_iff]
    simp
  | some m =>
    have hk : s.errNokey = true := h.resolve_right (by simp [hm])
    refine ⟨_, run_cycle hr hf (.resolveNoKey m hm hk), rfl, rfl, rfl, rfl, ?_, rfl, rfl⟩
    rw [Ne, err_eq_zero_iff]
    simp [hk]

/-- Settles O51: an empty sweep raises NoKey and a foreign code matches nothing, so RESOLVE takes the error exit; no
operation up to there sends. -/
theorem unknownCodeSendsNothing : Obligations.UnknownCodeSendsNothing := by
  rintro s _ hs hf hl rfl hr unknown
  obtain ⟨-, -, held, -⟩ := invAt_of_inv hs hf
  obtain ⟨b, -⟩ := hs
  have ready : s.Ready ((pressOps s.cfg).length + 1) := ⟨b.config, length_pressOps s.cfg ▸ hr⟩
  obtain ⟨u, q⟩ := exists_resolves (length_pressOps s.cfg ▸ ready.mono (Nat.le_succ _)) hf hl
  have failed : u.errNokey = true ∨ lastMatch u.cfg u.raw = none := by
    rw [q.errNokey, q.raw, q.run.cfg]
    exact unknown.imp_right lastMatch_eq_none_of_ne
  obtain ⟨t, run, fsm, frame, toggle, sameHeld, err, en, pol⟩ := exists_error_exit (q.run.ready ready) q.fsm failed
  have whole := q.run.append run
  have length : s.cfg.debounce + 6 * (s.cfg.rowSettle + 1) + 3 = (pressOps s.cfg ++ [Instr.resolve]).length := by
    rw [List.length_append, length_pressOps]
    rfl
  have rest := run_unwritten q.run (ready.mono (Nat.le_succ _)) fun i => mem_pressOps
  refine ⟨t, whole.reaches_of_length length, fsm, frame.trans q.frame, toggle.trans q.toggle,
    sameHeld.trans ((rest.heldDown (by decide)).trans held), err, en, pol, ?_⟩
  rw [whole.trace_of_length length, List.mem_append, not_or]
  exact ⟨fun h => absurd (mem_pressOps h) (by decide), by decide⟩

end Sys2Proof.Machine
end

section
/-! One frame (42_transmit.md section 5): where TX_SEG is in the frame it sends, its run to the end, its waveform. -/
namespace Sys2Proof.Machine

/-! ### Bit and frame lengths (rules R72, R77) -/

theorem bitStart_succ (c : Config) (f : FrameWord) (k : Nat) :
    bitStart c f (k + 1) = bitStart c f k + bitCycles c (sentBit f k) := rfl

theorem bitStart_mono (c : Config) (f : FrameWord) : Monotone (bitStart c f) :=
  monotone_nat_of_le_succ fun _ => Nat.le_add_right _ _

/-- Ones and zeros before bit `n`, each with the length of its bit. -/
theorem bitStart_eq (c : Config) (f : FrameWord) (n : Nat) :
    bitStart c f n = (List.range n).countP (sentBit f) * bitCycles c true +
      (n - (List.range n).countP (sentBit f)) * bitCycles c false := by
  induction n with
  | zero => simp [bitStart]
  | succ n ih =>
    have ones : (List.range n).countP (sentBit f) ≤ n :=
      List.countP_le_length.trans (List.length_range (n := n)).le
    rw [bitStart_succ, ih, List.range_succ, List.countP_append, List.countP_singleton]
    cases sentBit f n
    · rw [if_neg (by decide), Nat.add_zero, Nat.succ_sub ones, Nat.succ_mul]
      omega
    · rw [if_pos rfl, Nat.add_sub_add_right, Nat.succ_mul]
      omega

/-- `D(f)` of rule R77. -/
theorem bitStart_eq_frameCycles (c : Config) (f : FrameWord) : bitStart c f nBits = frameCycles c f :=
  bitStart_eq c f nBits

/-- A cycle of a frame lies in one bit only. -/
theorem bit_unique {c : Config} {f : FrameWord} {k k' j j' : Nat} (h : bitStart c f k + j = bitStart c f k' + j')
    (hj : j < bitCycles c (sentBit f k)) (hj' : j' < bitCycles c (sentBit f k')) : k = k' ∧ j = j' := by
  have before : ∀ {a b : Nat}, a < b → bitStart c f a + bitCycles c (sentBit f a) ≤ bitStart c f b :=
    fun hlt => bitStart_mono c f hlt
  rcases Nat.lt_trichotomy k k' with hlt | rfl | hlt
  · have := before hlt
    omega
  · exact ⟨rfl, Nat.add_left_cancel h⟩
  · have := before hlt
    omega

/-! ### The position in the frame (rule R74) -/

/-- The cycle of the current bit that `s` is in. -/
def State.bitCycle (s : State) : Nat :=
  (if s.half then (segA s.cfg (s.shreg.getLsbD 15)).len else 0) + (s.segment.len - s.tmr)

/-- The TX_SEG cycle of the frame `f` that `s` is in. -/
def State.framePos (f : FrameWord) (s : State) : Nat := bitStart s.cfg f s.bitcnt.toNat + s.bitCycle

/-- The bit being sent is the one at the top of the shift register. -/
theorem sending_bit {s : State} {f : FrameWord} (h : s.Sending f) :
    s.shreg.getLsbD 15 = sentBit f s.bitcnt.toNat := by
  obtain ⟨hbit, hsh, -⟩ := h
  have fits : s.bitcnt.toNat < 14 := hbit
  rw [hsh, BitVec.getLsbD_shiftLeft, sentBit, decide_eq_true (by decide : 15 < 16),
    decide_eq_false (by omega : ¬15 < s.bitcnt.toNat)]
  rfl

theorem segment_of_first {s : State} (hh : s.half = false) : s.segment = segA s.cfg (s.shreg.getLsbD 15) := by
  simp [State.segment, hh]

theorem segment_of_second {s : State} (hh : s.half = true) : s.segment = segB s.cfg (s.shreg.getLsbD 15) := by
  simp [State.segment, hh]

theorem bitCycle_of_first {s : State} (hh : s.half = false) :
    s.bitCycle = (segA s.cfg (s.shreg.getLsbD 15)).len - s.tmr := by
  simp [State.bitCycle, segment_of_first hh, hh]

theorem bitCycle_of_second {s : State} (hh : s.half = true) :
    s.bitCycle = (segA s.cfg (s.shreg.getLsbD 15)).len + ((segB s.cfg (s.shreg.getLsbD 15)).len - s.tmr) := by
  simp [State.bitCycle, segment_of_second hh, hh]

theorem bitCycle_lt {s : State} {f : FrameWord} (h : s.Sending f) :
    s.bitCycle < bitCycles s.cfg (sentBit f s.bitcnt.toNat) := by
  rw [← sending_bit h, bitCycles]
  obtain ⟨-, -, -, positive, bound, -⟩ := h
  cases hh : s.half
  · rw [segment_of_first hh] at bound
    rw [bitCycle_of_first hh]
    omega
  · rw [segment_of_second hh] at bound
    rw [bitCycle_of_second hh]
    omega

/-- While the frame is being sent, its last TX_SEG cycle has not passed. -/
theorem framePos_lt {s : State} {f : FrameWord} (h : s.Sending f) : s.framePos f < bitStart s.cfg f nBits := by
  have within : s.framePos f < bitStart s.cfg f (s.bitcnt.toNat + 1) := Nat.add_lt_add_left (bitCycle_lt h) _
  obtain ⟨hbit, -⟩ := h
  exact Nat.lt_of_lt_of_le within (bitStart_mono s.cfg f hbit)

/-- A frame starts at its first cycle. -/
theorem framePos_txLoad {s t : State} (h : s.Cycle .txLoad t) : t.framePos s.frame = 0 := by
  cases h
  have start : ((segA s.cfg (s.frame.getLsbD 15)).len - (segA s.cfg (s.frame.getLsbD 15)).len) = 0 := Nat.sub_self _
  exact (Nat.zero_add _).trans ((Nat.zero_add _).trans start)

/-- The last cycle of a segment. -/
theorem bitCycle_succ_of_expired {s : State} {f : FrameWord} (h : s.Sending f) (ht : s.tmr ≤ 1) :
    s.bitCycle + 1 = if s.half then bitCycles s.cfg (sentBit f s.bitcnt.toNat)
      else (segA s.cfg (s.shreg.getLsbD 15)).len := by
  rw [← sending_bit h, bitCycles]
  obtain ⟨-, -, -, positive, bound, -⟩ := h
  cases hh : s.half
  · rw [segment_of_first hh] at bound
    rw [bitCycle_of_first hh, if_neg (by decide)]
    omega
  · rw [segment_of_second hh] at bound
    rw [bitCycle_of_second hh, if_pos rfl]
    omega

/-- Each cycle of TX_SEG moves one cycle on in the frame, until its last one. -/
theorem framePos_txSeg {s t : State} {f : FrameWord} (h : s.Sending f) (hf : s.fsm = encode .txSeg)
    (cycle : s.Cycle .txSeg t) :
    (t.fsm = encode .txSeg ∧ t.framePos f = s.framePos f + 1) ∨
    (t.fsm = encode .txEnd ∧ s.framePos f + 1 = bitStart s.cfg f nBits) := by
  have ⟨hbit, _, _, _, bound, _⟩ := h
  cases cycle with
  | segTicks ht =>
    refine .inl ⟨hf, ?_⟩
    have next : s.segment.len - (s.tmr - 1) = s.segment.len - s.tmr + 1 := by omega
    exact congrArg (fun j => bitStart s.cfg f s.bitcnt.toNat +
      ((if s.half then (segA s.cfg (s.shreg.getLsbD 15)).len else 0) + j)) next
  | segFirstEnds ht hh =>
    have ends := bitCycle_succ_of_expired h ht
    rw [hh, if_neg (by decide)] at ends
    refine .inl ⟨hf, ?_⟩
    rw [State.framePos, State.framePos, Nat.add_assoc, ends, bitCycle_of_second rfl]
    exact congrArg (bitStart s.cfg f s.bitcnt.toNat + ·)
      (congrArg ((segA s.cfg (s.shreg.getLsbD 15)).len + ·) (Nat.sub_self _))
  | segBitEnds ht hh hb =>
    have ends := bitCycle_succ_of_expired h ht
    rw [hh, if_pos rfl] at ends
    refine .inl ⟨hf, ?_⟩
    rw [State.framePos, State.framePos, Nat.add_assoc, ends, ← bitStart_succ, ← bitcnt_succ hbit, State.bitCycle,
      segment_of_nextBit]
    exact congrArg (bitStart s.cfg f (s.bitcnt + 1).toNat + ·) ((Nat.zero_add _).trans (Nat.sub_self _))
  | segFrameEnds ht hh hb =>
    have ends := bitCycle_succ_of_expired h ht
    rw [hh, if_pos rfl] at ends
    refine .inr ⟨rfl, ?_⟩
    rw [State.framePos, Nat.add_assoc, ends, ← bitStart_succ, hb]

/-! ### The run of TX_SEG -/

/-- `t` is `m` cycles further on in sending `f` than `s`. -/
structure State.SendsTo (f : FrameWord) (m : Nat) (s t : State) : Prop where
  run : Run (List.replicate m .txSeg) s t
  fsm : t.fsm = encode .txSeg
  sending : t.Sending f
  framePos : t.framePos f = s.framePos f + m

/-- One more cycle of TX_SEG: the frame goes on, or TX_END follows its last cycle. -/
theorem sendsTo_next {f : FrameWord} {m : Nat} {s t : State} (hr : s.Ready (m + 1)) (r : s.SendsTo f m t) :
    (∃ u, s.SendsTo f (m + 1) u) ∨
    (∃ u, Run (List.replicate (m + 1) .txSeg) s u ∧ u.fsm = encode .txEnd ∧
      s.framePos f + (m + 1) = bitStart s.cfg f nBits) := by
  have ready : t.Ready 1 := r.run.ready (by rwa [List.length_replicate])
  obtain ⟨u, cycle⟩ := exists_cycle .txSeg t (by simp)
  have run := r.run.append (run_cycle ready r.fsm cycle)
  rw [← List.replicate_succ'] at run
  rcases framePos_txSeg r.sending r.fsm cycle with ⟨fsm, pos⟩ | ⟨ended, last⟩
  · rcases sending_txSeg ready.config r.sending cycle with ⟨-, sending⟩ | ⟨ended, -⟩
    · have pos' : u.framePos f = s.framePos f + (m + 1) := by rw [pos, r.framePos, Nat.add_assoc]
      exact .inl ⟨u.advance, run, fsm, sending, pos'⟩
    · exact absurd (encode_inj.mp (ended.symm.trans fsm)) (by decide)
  · rw [r.framePos, r.run.cfg] at last
    exact .inr ⟨u.advance, run, ended, last⟩

theorem exists_sendsTo {f : FrameWord} {m : Nat} {s : State} (hr : s.Ready m) (hf : s.fsm = encode .txSeg)
    (h : s.Sending f) (hm : s.framePos f + m < bitStart s.cfg f nBits) : ∃ t, s.SendsTo f m t := by
  induction m with
  | zero => exact ⟨s, run_nil s, hf, h, rfl⟩
  | succ m ih =>
    obtain ⟨t, r⟩ := ih (hr.mono (Nat.le_succ m)) (by omega)
    rcases sendsTo_next hr r with more | ⟨u, -, -, last⟩
    · exact more
    · omega

/-- TX_SEG runs up to the last cycle of its frame, and TX_END follows. -/
theorem exists_segments_run {f : FrameWord} {m : Nat} {s : State} (hr : s.Ready m) (hf : s.fsm = encode .txSeg)
    (h : s.Sending f) (hm : s.framePos f + m = bitStart s.cfg f nBits) :
    ∃ t, Run (List.replicate m .txSeg) s t ∧ t.fsm = encode .txEnd := by
  have within := framePos_lt h
  cases m with
  | zero => omega
  | succ m =>
    obtain ⟨t, r⟩ := exists_sendsTo (hr.mono (Nat.le_succ m)) hf h (by omega)
    rcases sendsTo_next hr r with ⟨u, more⟩ | ⟨u, run, ended, -⟩
    · have beyond := framePos_lt more.sending
      rw [more.framePos, more.run.cfg] at beyond
      omega
    · exact ⟨u, run, ended⟩

/-! ### The whole frame (rules R76 to R78) -/

theorem flatMap_bitOps (c : Config) (f : FrameWord) (n : Nat) :
    (List.range n).flatMap (fun k => bitOps c (sentBit f k)) = List.replicate (bitStart c f n) .txSeg := by
  induction n with
  | zero => rfl
  | succ n ih =>
    rw [List.range_succ, List.flatMap_append, ih, List.flatMap_singleton, bitOps, List.replicate_append_replicate,
      bitStart_succ]

theorem frameOps_eq (c : Config) (f : FrameWord) :
    frameOps c f = [.txLoad] ++ List.replicate (frameCycles c f) .txSeg ++ [.txEnd] := by
  rw [← bitStart_eq_frameCycles, ← flatMap_bitOps]
  rfl

theorem length_frameOps (c : Config) (f : FrameWord) : (frameOps c f).length = frameCycles c f + 2 := by
  simp [frameOps_eq]

theorem mem_frameOps {c : Config} {f : FrameWord} {i : Instr} (h : i ∈ frameOps c f) :
    i ∈ [Instr.txLoad, .txSeg, .txEnd] := by
  simp only [frameOps_eq, List.mem_append, List.mem_singleton, List.mem_replicate] at h
  rcases h with (rfl | ⟨-, rfl⟩) | rfl <;> decide

/-- The frame's first cycle of TX_SEG. -/
theorem exists_txLoad_run {s : State} (hr : s.Ready 1) (hf : s.fsm = encode .txLoad) :
    ∃ t, Run [.txLoad] s t ∧ t.fsm = encode .txSeg ∧ t.Sending s.frame ∧ t.framePos s.frame = 0 := by
  have sending := sending_txLoad hr.config (.txLoad (s := s))
  have pos := framePos_txLoad (.txLoad (s := s))
  exact ⟨_, run_cycle hr hf .txLoad, rfl, sending, pos⟩

/-- TX_LOAD and the TX_SEG cycles of the frame, up to TX_END. -/
theorem exists_run_to_txEnd {s : State} (hr : s.Ready (frameCycles s.cfg s.frame + 1)) (hf : s.fsm = encode .txLoad) :
    ∃ t, Run ([.txLoad] ++ List.replicate (frameCycles s.cfg s.frame) .txSeg) s t ∧ t.fsm = encode .txEnd := by
  obtain ⟨u, load, fsm, sending, pos⟩ := exists_txLoad_run (hr.mono (Nat.le_add_left _ _)) hf
  have ready : u.Ready (frameCycles s.cfg s.frame) := load.ready (Nat.add_comm _ _ ▸ hr)
  obtain ⟨t, segs, ended⟩ := exists_segments_run ready fsm sending
    (by rw [pos, load.cfg, bitStart_eq_frameCycles, Nat.zero_add])
  exact ⟨t, load.append segs, ended⟩

/-- TX_END leaves the transmitter clear (rule R75). -/
theorem exists_txEnd_run {s : State} (hr : s.Ready 1) (hf : s.fsm = encode .txEnd) :
    ∃ t, Run [.txEnd] s t ∧ t.fsm = encode .decideTx ∧ t.tmr = 0 ∧ t.TxClear :=
  ⟨_, run_cycle hr hf .txEnd, rfl, rfl, rfl, rfl, rfl, rfl, rfl⟩

/-- `t` is DECIDE after the frame that starts in `s`, with what FRAME leaves unchanged. -/
structure State.SendsFrame (s t : State) : Prop where
  run : Run (frameOps s.cfg s.frame) s t
  fsm : t.fsm = encode .decideTx
  tmr : t.tmr = 0
  clear : t.TxClear
  rest : s.Unwritten [.txLoad, .txSeg, .txEnd] t

theorem exists_sendsFrame {s : State} (hr : s.Ready (frameCycles s.cfg s.frame + 2)) (hf : s.fsm = encode .txLoad) :
    ∃ t, s.SendsFrame t := by
  obtain ⟨u, sends, ended⟩ := exists_run_to_txEnd (hr.mono (Nat.le_succ _)) hf
  have ready : u.Ready 1 := sends.ready (hr.mono (by simp))
  obtain ⟨t, clears, fsm, tmr, clear⟩ := exists_txEnd_run ready ended
  have run := sends.append clears
  rw [← frameOps_eq] at run
  exact ⟨t, run, fsm, tmr, clear, run_unwritten run (by rwa [length_frameOps]) fun i => mem_frameOps⟩

/-- Settles O47: FRAME runs bit by bit to TX_END, which clears the transmitter; its three operations write none of the
other registers. -/
theorem frameTransmission : Obligations.FrameTransmission := by
  rintro s _ hc hf rfl hr
  obtain ⟨t, f⟩ := exists_sendsFrame ⟨hc, hr⟩ hf
  obtain ⟨shreg, bitcnt, half, segOn, carPhase⟩ := f.clear
  have length := length_frameOps s.cfg s.frame
  have rest := f.rest
  exact ⟨length, f.run.trace_of_length length.symm, t, f.run.reaches_of_length length.symm, f.fsm,
    rest.frame (by decide), rest.toggle (by decide), rest.heldDown (by decide), rest.keyIdx (by decide),
    rest.raw (by decide), rest.errNokey (by decide), rest.errNomatch (by decide), rest.row (by decide),
    rest.edgePol (by decide), f.tmr, carPhase, shreg, bitcnt, half, segOn⟩

/-! ### The waveform (rules R28, R76) -/

/-- The emitter follows the segment table: the carrier counts from the start of the segment. -/
theorem irOut_eq_bitWave {s : State} {f : FrameWord} (hf : s.fsm = encode .txSeg) (h : s.Sending f) :
    s.irOut = bitWave s.cfg (sentBit f s.bitcnt.toNat) s.bitCycle := by
  have out : s.irOut = (s.segOn && decide (s.carPhase < s.cfg.carHigh)) := by simp [State.irOut, hf]
  rw [out, ← sending_bit h]
  obtain ⟨-, -, on, positive, bound, phase⟩ := h
  cases hh : s.half
  · rw [segment_of_first hh] at on bound phase
    rw [bitCycle_of_first hh, bitWave, if_pos (by omega), segWave, on, phase]
  · rw [segment_of_second hh] at on bound phase
    rw [bitCycle_of_second hh, bitWave, if_neg (by omega), Nat.add_sub_cancel_left, segWave, on, phase]

/-- Cycle `j` of bit `k` is where the bit before it and the cycles before it put it. -/
theorem exists_bit_cycle {s : State} {k j : Nat} (hr : s.Ready (frameCycles s.cfg s.frame + 1))
    (hf : s.fsm = encode .txLoad) (hk : k < 14) (hj : j < bitCycles s.cfg (sentBit s.frame k)) :
    ∃ t, Reaches (1 + bitStart s.cfg s.frame k + j) s t ∧ t.fsm = encode .txSeg ∧ t.bitcnt.toNat = k ∧
      t.irOut = bitWave s.cfg (sentBit s.frame k) j := by
  have within : bitStart s.cfg s.frame k + j < frameCycles s.cfg s.frame := by
    rw [← bitStart_eq_frameCycles]
    exact Nat.lt_of_lt_of_le (Nat.add_lt_add_left hj _) (bitStart_mono s.cfg s.frame (show k + 1 ≤ nBits from hk))
  obtain ⟨u, load, fsm, sending, pos⟩ := exists_txLoad_run (hr.mono (Nat.le_add_left _ _)) hf
  have ready : u.Ready (bitStart s.cfg s.frame k + j) :=
    load.ready (hr.mono (by rw [List.length_singleton]; omega))
  obtain ⟨t, r⟩ := exists_sendsTo ready fsm sending
    (by rw [pos, load.cfg, bitStart_eq_frameCycles, Nat.zero_add]; exact within)
  have cfg : t.cfg = s.cfg := r.run.cfg.trans load.cfg
  have place : bitStart s.cfg s.frame t.bitcnt.toNat + t.bitCycle = bitStart s.cfg s.frame k + j := by
    rw [← cfg]
    exact r.framePos.trans (by rw [pos, Nat.zero_add, cfg])
  obtain ⟨hbit, hcycle⟩ := bit_unique place (cfg ▸ bitCycle_lt r.sending) hj
  refine ⟨t, (load.append r.run).reaches_of_length ?_, r.fsm, hbit, ?_⟩
  · simp
    omega
  · rw [irOut_eq_bitWave r.fsm r.sending, hbit, hcycle, cfg]

/-- Settles O48: in each TX_SEG cycle the emitter is that of the cycle's place in its bit; outside TX_SEG it is off. -/
theorem frameWaveform : Obligations.FrameWaveform := by
  intro s hc hf hr
  obtain ⟨t, sends, ended⟩ := exists_run_to_txEnd ⟨hc, hr⟩ hf
  refine ⟨irOut_of_op_ne_txSeg hf (by decide), fun k hk j hj => exists_bit_cycle ⟨hc, hr⟩ hf hk hj,
    bitStart_eq_frameCycles s.cfg s.frame, t, sends.reaches_of_length ?_, ended, irOut_of_op_ne_txSeg ended (by decide)⟩
  simp [Nat.add_comm]

end Sys2Proof.Machine
end

section
/-! Retransmission and release (43_retransmit.md, 70_reset_and_hazards.md section 3): DECIDE's outcomes as runs, the
latch that a release leaves, and the end of the press cycle. -/
namespace Sys2Proof.Machine

/-! ### The outcomes of DECIDE (rule R79) -/

/-- `t` is INTERFRAME after a DECIDE that retransmits. -/
structure State.Retransmits (s t : State) : Prop where
  run : Run [.decideTx] s t
  fsm : t.fsm = encode .interframe
  tmr : t.tmr = s.cfg.interframe
  frame : t.frame = s.frame
  toggle : t.toggle = s.toggle
  heldDown : t.heldDown = s.heldDown
  edgeLatch : s.edgeLatch = false → t.edgeLatch = s.edgeUpdate.edgeLatch

theorem exists_retransmits {s : State} (hr : s.Ready 1) (hf : s.fsm = encode .decideTx)
    (h : s.edgeLatch = false ∨ s.colIn ≠ 0) : ∃ t, s.Retransmits t := by
  cases hl : s.edgeLatch with
  | false => exact ⟨_, run_cycle hr hf (.decideNoLatch hl), rfl, rfl, rfl, rfl, rfl, fun _ => rfl⟩
  | true =>
    have hc : s.colIn ≠ 0 := h.resolve_left (by simp [hl])
    exact ⟨_, run_cycle hr hf (.decideHeld hl hc), rfl, rfl, rfl, rfl, rfl, fun off => by simp [hl] at off⟩

/-- `t` is IDLE after a DECIDE that ends the press cycle. -/
structure State.EndsPress (s t : State) : Prop where
  run : Run [.decideTx] s t
  fsm : t.fsm = encode .idle
  frame : t.frame = s.frame
  toggle : t.toggle = !s.toggle
  heldDown : t.heldDown = false

theorem exists_endsPress {s : State} (hr : s.Ready 1) (hf : s.fsm = encode .decideTx) (hl : s.edgeLatch = true)
    (hc : s.colIn = 0) : ∃ t, s.EndsPress t :=
  ⟨_, run_cycle hr hf (.decideRelease hl hc), rfl, rfl, rfl, rfl⟩

/-- The wait of INTERFRAME as a run, whatever the timer holds. -/
theorem exists_interframe_run {s : State} (hr : s.Ready s.tmr) (hf : s.fsm = encode .interframe) (hn : 1 ≤ s.tmr) :
    ∃ t, Run (List.replicate s.tmr .interframe) s t ∧ t.fsm = encode .txLoad ∧ s.Unwritten [.interframe] t :=
  exists_run_to_successor (by decide) hr hf hn

theorem length_retxOps (c : Config) : (retxOps c).length = c.interframe + 1 := by simp [retxOps]

/-- RETX: DECIDE retransmits, and TX_LOAD follows the inter-frame wait. -/
theorem exists_retx_run {s : State} (hr : s.Ready (s.cfg.interframe + 1)) (hf : s.fsm = encode .decideTx)
    (h : s.edgeLatch = false ∨ s.colIn ≠ 0) :
    ∃ t, Run (retxOps s.cfg) s t ∧ t.fsm = encode .txLoad ∧ t.frame = s.frame ∧ t.toggle = s.toggle ∧
      t.heldDown = s.heldDown := by
  obtain ⟨-, -, ⟨-, -, -, -, -, positive, -⟩, -⟩ := wf_numbers hr.config
  obtain ⟨u, r⟩ := exists_retransmits (hr.mono (Nat.le_add_left _ _)) hf h
  have ready : u.Ready u.tmr := r.run.ready (by rw [r.tmr, List.length_singleton, Nat.add_comm]; exact hr)
  obtain ⟨t, run, fsm, rest⟩ := exists_interframe_run ready r.fsm (r.tmr ▸ positive)
  rw [r.tmr] at run
  exact ⟨t, r.run.append run, fsm, (rest.frame (by decide)).trans r.frame, (rest.toggle (by decide)).trans r.toggle,
    (rest.heldDown (by decide)).trans r.heldDown⟩

/-- Settles O49: DECIDE comes `D(f) + 2` cycles after TX_LOAD; RETX leads from it to the next TX_LOAD, or it ends the
press cycle in its own cycle. -/
theorem retransmissionSpacing : Obligations.RetransmissionSpacing := by
  intro s t hc hf ht hr
  have ready : s.Ready (frameCycles s.cfg s.frame + 2 + (s.cfg.interframe + 1)) := ⟨hc, noReset_mono hr (by omega)⟩
  obtain ⟨t', f⟩ := exists_sendsFrame (ready.mono (Nat.le_add_right _ _)) hf
  have length := length_frameOps s.cfg s.frame
  obtain rfl : t' = t := reaches_unique (f.run.reaches_of_length length.symm) ht
  have cfg := f.run.cfg
  have later : t'.Ready (s.cfg.interframe + 1) := f.run.ready (length ▸ ready)
  refine ⟨fun h => ?_, fun hl hcol => ?_⟩
  · obtain ⟨u, run, fsm, frame, toggle, held⟩ := exists_retx_run (cfg ▸ later) f.fsm h
    rw [cfg] at run
    have whole := f.run.append run
    have wholeLength : frameCycles s.cfg s.frame + 3 + s.cfg.interframe =
        (frameOps s.cfg s.frame ++ retxOps s.cfg).length := by
      rw [List.length_append, length, length_retxOps]
      omega
    exact ⟨u, whole.reaches_of_length wholeLength, fsm, frame.trans (f.rest.frame (by decide)),
      toggle.trans (f.rest.toggle (by decide)), held.trans (f.rest.heldDown (by decide)),
      whole.trace_of_length wholeLength⟩
  · obtain ⟨u, e⟩ := exists_endsPress (later.mono (Nat.le_add_left _ _)) f.fsm hl hcol
    refine ⟨u, (f.run.append e.run).reaches_of_length ?_, e.fsm, e.frame.trans (f.rest.frame (by decide)),
      e.toggle.trans (congrArg not (f.rest.toggle (by decide))), e.heldDown⟩
    rw [List.length_append, length, List.length_singleton]

/-! ### The latch that a release leaves (rules R88, R105) -/

/-- The operations of the loop that only pass the time until DECIDE. -/
def passingOps : List Instr := [.txLoad, .txSeg, .txEnd, .interframe]

/-- The operations after RESOLVE that leave the detector to its update. -/
def loopOps : List Instr := .encode :: passingOps

theorem passingOps_subset_loopOps : ∀ i ∈ passingOps, i ∈ loopOps := fun _ => List.mem_cons_of_mem _

theorem frameOps_subset_passingOps {c : Config} {f : FrameWord} : ∀ i ∈ frameOps c f, i ∈ passingOps :=
  fun _ hi => List.mem_append_left [Instr.interframe] (mem_frameOps hi)

theorem cycle_edgeLatch {s t : State} {i : Instr} (hi : i ∈ loopOps) (h : s.Cycle i t) :
    t.edgeLatch = s.edgeUpdate.edgeLatch := by
  obtain ⟨-, update⟩ := edgeDetectorUpdate
  have other : i ≠ .scanEnd ∧ i ≠ .idle ∧ i ≠ .resolve ∧ i ≠ .decideTx := by
    refine ⟨?_, ?_, ?_, ?_⟩ <;> rintro rfl <;> revert hi <;> decide
  obtain ⟨scanEnd, idle, resolve, decideTx⟩ := other
  obtain ⟨-, -, latch, -⟩ := update i s t (exec_of_cycle h) scanEnd (fun e => absurd e idle) (fun e => absurd e resolve)
    fun e => absurd e decideTx
  exact latch

/-- A latched edge stays latched. -/
theorem edgeUpdate_latched {s : State} (h : s.edgeLatch = true) : s.edgeUpdate.edgeLatch = true := by
  simp [h]

/-- Columns that read 0 are a release, which latches unless it has before (rule R105). -/
theorem release_latches {s : State} (h : s.Resolved) (hc : s.colIn = 0) : s.edgeUpdate.edgeLatch = true := by
  obtain ⟨-, -, -, -, -, ⟨pol, armed⟩, counted⟩ := h
  cases hl : s.edgeLatch with
  | true => exact edgeUpdate_latched hl
  | false =>
    have en : s.edgeEn = true := by rw [armed, hl]; rfl
    have fires : s.edgeFires = true := by
      rw [edgeFires_iff, pol, hc]
      exact ⟨en, fell_to_zero (counted en)⟩
    rw [State.edgeUpdate_edgeLatch, if_pos fires]

/-- In the loop a latch lasts until DECIDE. -/
theorem run_keeps_latch {ops : List Instr} {s t : State} (h : Run ops s t) (hr : s.Ready ops.length)
    (hops : ∀ i ∈ ops, i ∈ loopOps) (hl : s.edgeLatch = true) : t.edgeLatch = true :=
  run_keeps (P := fun u => u.edgeLatch = true)
    (fun i hi _ _ cycle latched => (cycle_edgeLatch (hops i hi) cycle).trans (edgeUpdate_latched latched)) h hr hl

/-- A release in the first cycle of a run has latched at its end. -/
theorem run_latches {ops : List Instr} {s t : State} (h : Run ops s t) (hne : ops ≠ []) (hr : s.Ready ops.length)
    (hops : ∀ j ∈ ops, j ∈ loopOps) (resolved : s.Resolved) (hc : s.colIn = 0) : t.edgeLatch = true := by
  cases ops with
  | nil => exact absurd rfl hne
  | cons i ops =>
    obtain ⟨u, cycle, hu, rest⟩ := h.uncons hr.now
    have latched : u.edgeLatch = true :=
      (cycle_edgeLatch (hops i List.mem_cons_self) cycle).trans (release_latches resolved hc)
    exact run_keeps_latch rest (hr.next hu) (fun j hj => hops j (List.mem_cons_of_mem i hj)) latched

/-! ### A release before ENCODE is done -/

theorem exists_encode_run {s : State} {payload : Byte} (hr : s.Ready 1) (hf : s.fsm = encode .encode)
    (hp : memRead s.cfg.funcTable s.keyIdx.toNat = some payload) :
    ∃ t, Run [.encode] s t ∧ t.fsm = encode .txLoad ∧ t.frame = frameOf s.cfg payload s.selIn s.toggle ∧
      t.toggle = s.toggle :=
  ⟨_, run_cycle hr hf (.encode payload hp), rfl, rfl, rfl⟩

/-- Settles O55: the release has latched when the first DECIDE comes, and no column is asserted. -/
theorem earlyReleaseSendsOneFrame : Obligations.EarlyReleaseSendsOneFrame := by
  rintro s payload f _ hs hf hp rfl rfl hr hcol
  obtain ⟨resolved, -⟩ := invAt_of_inv hs hf
  obtain ⟨b, -⟩ := hs
  have ready : s.Ready _ := ⟨b.config, hr⟩
  obtain ⟨u, pack, fsm, frame, toggle⟩ := exists_encode_run (ready.mono (by omega)) hf hp
  have cfg := pack.cfg
  have later : u.Ready (frameCycles u.cfg u.frame + 2 + 1) := by
    rw [cfg, frame]
    exact pack.ready (ready.mono (by rw [List.length_singleton]; omega))
  obtain ⟨t, sends⟩ := exists_sendsFrame (later.mono (Nat.le_succ _)) fsm
  have run := pack.append sends.run
  have length : ([Instr.encode] ++ frameOps u.cfg u.frame).length =
      frameCycles s.cfg (frameOf s.cfg payload s.selIn s.toggle) + 3 := by
    rw [List.length_append, length_frameOps, cfg, frame, List.length_singleton]
    omega
  have latched : t.edgeLatch = true := by
    refine run_latches run (List.cons_ne_nil _ _) (ready.mono (length.le.trans (Nat.le_succ _))) ?_ resolved
      ((colAt_zero s).symm.trans (hcol 0 (Nat.succ_pos _)))
    exact List.forall_mem_cons.mpr
      ⟨by decide, fun i hi => passingOps_subset_loopOps i (frameOps_subset_passingOps i hi)⟩
  have released : t.colIn = 0 := by
    rw [run.colIn, length]
    exact hcol _ (Nat.lt_succ_self _)
  obtain ⟨v, e⟩ := exists_endsPress (sends.run.ready (by rw [length_frameOps]; exact later)) sends.fsm latched released
  have whole := run.append e.run
  have wholeLength : frameCycles s.cfg (frameOf s.cfg payload s.selIn s.toggle) + 4 =
      ([Instr.encode] ++ frameOps u.cfg u.frame ++ [Instr.decideTx]).length := by
    rw [List.length_append, length, List.length_singleton]
  refine ⟨?_, v, whole.reaches_of_length wholeLength, e.fsm, ?_, ?_, e.heldDown⟩
  · rw [whole.trace_of_length wholeLength, cfg, frame]
    rfl
  · rw [e.frame, sends.rest.frame (by decide), frame]
  · rw [e.toggle, sends.rest.toggle (by decide), toggle]

/-! ### A release in the transmit loop -/

/-- `n` cycles on, the press cycle of `s` is over: IDLE, the same frame, and the toggle flipped by then and not
before. -/
def State.OverIn (n : Nat) (s : State) : Prop :=
  ∃ t, Reaches n s t ∧ t.fsm = encode .idle ∧ t.toggle = !s.toggle ∧ t.heldDown = false ∧ t.frame = s.frame ∧
    ∀ m < n, ∀ u, Reaches m s u → u.toggle = s.toggle

/-- From DECIDE with the release latched, the press cycle ends in this cycle. -/
theorem overIn_one {s : State} (hr : s.Ready 1) (hf : s.fsm = encode .decideTx) (hl : s.edgeLatch = true)
    (hc : s.colIn = 0) : s.OverIn 1 := by
  obtain ⟨t, e⟩ := exists_endsPress hr hf hl hc
  refine ⟨t, e.run.reaches, e.fsm, e.toggle, e.heldDown, e.frame, fun m hm u hu => ?_⟩
  obtain rfl := Nat.lt_one_iff.mp hm
  rw [reaches_zero.mp hu]

/-- A run that keeps toggle and frame puts the end of the press cycle off. -/
theorem overIn_of_run {ops : List Instr} {s t : State} {n : Nat} (h : Run ops s t) (hframe : t.frame = s.frame)
    (htoggle : ∀ m ≤ ops.length, ∀ u, Reaches m s u → u.toggle = s.toggle) (ends : t.OverIn n) :
    s.OverIn (ops.length + n) := by
  obtain ⟨v, hv, fsm, flipped, held, frame, before⟩ := ends
  have same := htoggle _ (Nat.le_refl _) t h.reaches
  refine ⟨v, reaches_trans h.reaches hv, fsm, flipped.trans (congrArg not same), held, frame.trans hframe,
    fun m hm u hu => ?_⟩
  rcases Nat.le_total m ops.length with hle | hle
  · exact htoggle m hle u hu
  · obtain ⟨k, rfl⟩ := Nat.exists_eq_add_of_le hle
    exact (before k (Nat.lt_of_add_lt_add_left hm) u (reaches_rest h.reaches hu)).trans same

/-- `ops` pass from `s` to DECIDE in `t`. -/
structure State.PassesTo (ops : List Instr) (s t : State) : Prop where
  run : Run ops s t
  fsm : t.fsm = encode .decideTx
  ops : ∀ i ∈ ops, i ∈ passingOps

/-- With the release latched at the end of the passing operations, the press cycle is over one cycle later. -/
theorem overIn_of_passesTo {ops : List Instr} {s t : State} (p : s.PassesTo ops t) (hr : s.Ready (ops.length + 1))
    (hl : t.edgeLatch = true) (hcol : s.colAt ops.length = 0) : s.OverIn (ops.length + 1) := by
  have ready := hr.mono (Nat.le_succ _)
  have frame := (run_unwritten p.run ready p.ops).frame (by decide)
  have toggle := run_keeps_toggle p.run ready fun hd => absurd (p.ops _ hd) (by decide)
  exact overIn_of_run p.run frame toggle (overIn_one (p.run.ready hr) p.fsm hl (p.run.colIn.trans hcol))

theorem passesTo_append {ops ops' : List Instr} {s t u : State} (h : Run ops s t) (hops : ∀ i ∈ ops, i ∈ passingOps)
    (p : t.PassesTo ops' u) : s.PassesTo (ops ++ ops') u :=
  ⟨h.append p.run, p.fsm, fun i hi => (List.mem_append.mp hi).elim (hops i) (p.ops i)⟩

theorem replicate_subset_passingOps {i : Instr} (hi : i ∈ passingOps) (n : Nat) :
    ∀ j ∈ List.replicate n i, j ∈ passingOps := fun _ hj => List.eq_of_mem_replicate hj ▸ hi

theorem passesTo_of_txLoad {s : State} (hr : s.Ready (frameCycles s.cfg s.frame + 2)) (hf : s.fsm = encode .txLoad) :
    ∃ t, s.PassesTo (frameOps s.cfg s.frame) t := by
  obtain ⟨t, f⟩ := exists_sendsFrame hr hf
  exact ⟨t, f.run, f.fsm, frameOps_subset_passingOps⟩

theorem passesTo_of_txEnd {s : State} (hr : s.Ready 1) (hf : s.fsm = encode .txEnd) : ∃ t, s.PassesTo [.txEnd] t := by
  obtain ⟨t, run, fsm, -⟩ := exists_txEnd_run hr hf
  exact ⟨t, run, fsm, by decide⟩

/-- At most the frame's own TX_SEG cycles are left. -/
theorem passesTo_of_txSeg {s : State} {f : FrameWord} (hr : s.Ready (frameCycles s.cfg f + 1))
    (hf : s.fsm = encode .txSeg) (h : s.Sending f) :
    ∃ m ≤ frameCycles s.cfg f, ∃ t, s.PassesTo (List.replicate m .txSeg ++ [.txEnd]) t := by
  have within := (framePos_lt h).le
  rw [bitStart_eq_frameCycles] at within
  obtain ⟨m, left⟩ := Nat.exists_eq_add_of_le within
  obtain ⟨u, segs, ended⟩ := exists_segments_run (m := m) (hr.mono (by omega)) hf h
    (by rw [bitStart_eq_frameCycles, left])
  obtain ⟨t, p⟩ := passesTo_of_txEnd (segs.ready (hr.mono (by rw [List.length_replicate]; omega))) ended
  exact ⟨m, by omega, t, passesTo_append segs (replicate_subset_passingOps (by decide) m) p⟩

theorem passesTo_of_interframe {s : State} (hr : s.Ready (s.tmr + (frameCycles s.cfg s.frame + 2)))
    (hf : s.fsm = encode .interframe) (hn : 1 ≤ s.tmr) :
    ∃ t, s.PassesTo (List.replicate s.tmr .interframe ++ frameOps s.cfg s.frame) t := by
  obtain ⟨u, waits, fsm, rest⟩ := exists_interframe_run (hr.mono (Nat.le_add_right _ _)) hf hn
  have frame := rest.frame (by decide)
  have ready : u.Ready (frameCycles u.cfg u.frame + 2) :=
    waits.ready (by rw [waits.cfg, frame, List.length_replicate]; exact hr)
  obtain ⟨t, p⟩ := passesTo_of_txLoad ready fsm
  rw [waits.cfg, frame] at p
  exact ⟨t, passesTo_append waits (replicate_subset_passingOps (by decide) _) p⟩

/-- `s` is ready for `b` cycles in which the columns read 0: the keys are released. -/
structure State.Released (b : Nat) (s : State) : Prop where
  ready : s.Ready b
  columns : ∀ k < b, s.colAt k = 0

theorem Run.released {ops : List Instr} {s t : State} {b : Nat} (h : Run ops s t)
    (hs : s.Released (ops.length + b)) : t.Released b := by
  refine ⟨h.ready hs.ready, fun k hk => ?_⟩
  obtain ⟨cfg, inputs⟩ := reaches_keeps_environment h.reaches
  rw [State.colAt, cfg, inputs]
  exact hs.columns _ (Nat.add_lt_add_left hk _)

/-- A release in the first of the passing cycles ends the press cycle at the DECIDE they lead to. -/
theorem overIn_of_release {ops : List Instr} {s t : State} {b : Nat} (p : s.PassesTo ops t) (hne : ops ≠ [])
    (hs : s.Released b) (hb : ops.length < b) (resolved : s.Resolved) : s.OverIn (ops.length + 1) := by
  have now : s.colIn = 0 := (colAt_zero s).symm.trans (hs.columns 0 (by omega))
  have latched := run_latches p.run hne (hs.ready.mono hb.le) (fun i hi => passingOps_subset_loopOps i (p.ops i hi))
    resolved now
  exact overIn_of_passesTo p (hs.ready.mono hb) latched (hs.columns _ hb)

/-- A DECIDE that finds no latch yet sends the frame once more; by its end the release has latched. -/
theorem overIn_of_decide_noLatch {s : State}
    (hs : s.Released (frameCycles s.cfg s.frame + s.cfg.interframe + 4)) (hf : s.fsm = encode .decideTx)
    (hl : s.edgeLatch = false) (resolved : s.Resolved) :
    s.OverIn (frameCycles s.cfg s.frame + s.cfg.interframe + 4) := by
  obtain ⟨-, -, ⟨-, -, -, -, -, positive, -⟩, -⟩ := wf_numbers hs.ready.config
  have now : s.colIn = 0 := (colAt_zero s).symm.trans (hs.columns 0 (Nat.succ_pos _))
  obtain ⟨u, r⟩ := exists_retransmits (hs.ready.mono (by omega)) hf (.inl hl)
  have cfg := r.run.cfg
  have later : u.Released (frameCycles s.cfg s.frame + s.cfg.interframe + 3) :=
    r.run.released (by rw [List.length_singleton, Nat.add_comm]; exact hs)
  obtain ⟨t, p⟩ := passesTo_of_interframe (later.ready.mono (by rw [r.tmr, cfg, r.frame]; omega)) r.fsm
    (r.tmr ▸ positive)
  have length : (List.replicate u.tmr Instr.interframe ++ frameOps u.cfg u.frame).length =
      frameCycles s.cfg s.frame + s.cfg.interframe + 2 := by
    rw [List.length_append, List.length_replicate, length_frameOps, r.tmr, cfg, r.frame]
    omega
  have latched : t.edgeLatch = true := by
    refine run_keeps_latch p.run (later.ready.mono (by rw [length]; omega))
      (fun i hi => passingOps_subset_loopOps i (p.ops i hi)) ?_
    rw [r.edgeLatch hl, release_latches resolved now]
  have ends := overIn_of_passesTo p (by rw [length]; exact later.ready) latched
    (later.columns _ (by rw [length]; omega))
  have toggle : ∀ m ≤ [Instr.decideTx].length, ∀ v, Reaches m s v → v.toggle = s.toggle := by
    intro m hm v hv
    rcases Nat.le_one_iff_eq_zero_or_eq_one.mp hm with rfl | rfl
    · rw [reaches_zero.mp hv]
    · rw [reaches_unique hv r.run.reaches, r.toggle]
  have whole := overIn_of_run r.run r.frame toggle ends
  rwa [length, List.length_singleton, Nat.add_comm 1] at whole

/-- Settles O52: whatever the operation, DECIDE comes within one inter-frame wait and one frame, and by then the
release has latched, unless that DECIDE is the cycle of the release itself. -/
theorem releaseEndsPressCycle : Obligations.ReleaseEndsPressCycle := by
  rintro s _ hs held rfl hr hcol
  obtain ⟨b, i, hd, hi⟩ := hs
  have hf := decode_eq_ok_iff.mp hd
  have released : s.Released (frameCycles s.cfg s.frame + s.cfg.interframe + 4) := ⟨⟨b.config, hr⟩, hcol⟩
  have now : s.colIn = 0 := (colAt_zero s).symm.trans (hcol 0 (Nat.succ_pos _))
  have ready := released.ready
  have unheld : s.heldDown ≠ false := by simp [held]
  cases i with
  | idle =>
    obtain ⟨-, -, none, -⟩ := hi
    exact absurd none unheld
  | debounce | scanDrive | scanSample | scanEnd =>
    obtain ⟨⟨⟨-, -, none, -⟩, -⟩, -⟩ := hi
    exact absurd none unheld
  | resolve =>
    obtain ⟨⟨-, -, none, -⟩, -⟩ := hi
    exact absurd none unheld
  | encode =>
    obtain ⟨-, none, -⟩ := hi
    exact absurd none unheld
  | txLoad =>
    obtain ⟨⟨resolved, -⟩, -⟩ := hi
    obtain ⟨t, p⟩ := passesTo_of_txLoad (ready.mono (by omega)) hf
    have length := length_frameOps s.cfg s.frame
    exact ⟨_, by omega, overIn_of_release p (List.cons_ne_nil _ _) released (by omega) resolved⟩
  | txSeg =>
    obtain ⟨⟨resolved, -⟩, sending⟩ := hi
    obtain ⟨m, hm, t, p⟩ := passesTo_of_txSeg (ready.mono (by omega)) hf sending
    have length : (List.replicate m Instr.txSeg ++ [Instr.txEnd]).length = m + 1 := by simp
    exact ⟨_, by omega, overIn_of_release p (by simp) released (by omega) resolved⟩
  | txEnd =>
    obtain ⟨⟨resolved, -⟩, -⟩ := hi
    obtain ⟨t, p⟩ := passesTo_of_txEnd (ready.mono (by omega)) hf
    exact ⟨_, Nat.le_add_left 2 _, overIn_of_release p (by simp) released (Nat.lt_add_left _ (by decide)) resolved⟩
  | decideTx =>
    obtain ⟨⟨resolved, -⟩, -⟩ := hi
    cases hl : s.edgeLatch with
    | false => exact ⟨_, Nat.le_refl _, overIn_of_decide_noLatch released hf hl resolved⟩
    | true => exact ⟨1, Nat.le_add_left 1 _, overIn_one (ready.mono (by omega)) hf hl now⟩
  | interframe =>
    obtain ⟨⟨resolved, -⟩, positive, bound, -⟩ := hi
    obtain ⟨t, p⟩ := passesTo_of_interframe (ready.mono (by omega)) hf positive
    have length : (List.replicate s.tmr Instr.interframe ++ frameOps s.cfg s.frame).length =
        s.tmr + (frameCycles s.cfg s.frame + 2) := by
      rw [List.length_append, List.length_replicate, length_frameOps]
    exact ⟨_, by omega, overIn_of_release p (List.ne_nil_of_length_pos (by omega)) released (by omega) resolved⟩

end Sys2Proof.Machine
end
